-- ==== Sys2Proof/Word.lean ====
section
/-! DEFINITION. The word types of the core (00_scope R7): 8-bit bytes and 16-bit words. All arithmetic on
them wraps, which is the spec's `trunc8` and `trunc16` (R9, R120). -/

namespace Sys2Proof

/-- An 8-bit value: a register, a memory byte, an immediate, a port number. -/
abbrev Byte := BitVec 8

/-- A 16-bit value: an address, sp, pc, a register pair. -/
abbrev Word := BitVec 16

end Sys2Proof
end

