-- ==== Sys2Proof/Syntax.lean ====
section
/-! DEFINITION. The instructions: one constructor for each of the 256 rows of spec/opcode_table.json, in the
order of the opcode bytes (30_encoding R87), and last the twelve bytes with no instruction (R88). An operand is
an imm8 or port number (`Byte`) or an imm16 or address (`Word`) (R85). -/

namespace Sys2Proof

/-- The formats of R80. -/
inductive Format where
  | f1
  | f2
  | f3
  deriving DecidableEq, Repr

/-- The length in bytes of a format (R80). -/
def Format.length : Format → Nat
  | .f1 => 1
  | .f2 => 2
  | .f3 => 3

/-- The 256 rows of the opcode map. -/
inductive Instr where
  | nop  -- 0x00 NOP, R130
  | lxiB (d16 : Word)  -- 0x01 LXI B,d16, R145
  | staxB  -- 0x02 STAX B, R151
  | inxB  -- 0x03 INX B, R174
  | inrB  -- 0x04 INR B, R170
  | dcrB  -- 0x05 DCR B, R172
  | mviB (d8 : Byte)  -- 0x06 MVI B,d8, R143
  | rlc  -- 0x07 RLC, R230
  | dadB  -- 0x09 DAD B, R204
  | ldaxB  -- 0x0A LDAX B, R150
  | dcxB  -- 0x0B DCX B, R175
  | inrC  -- 0x0C INR C, R170
  | dcrC  -- 0x0D DCR C, R172
  | mviC (d8 : Byte)  -- 0x0E MVI C,d8, R143
  | rrc  -- 0x0F RRC, R231
  | lxiD (d16 : Word)  -- 0x11 LXI D,d16, R145
  | staxD  -- 0x12 STAX D, R151
  | inxD  -- 0x13 INX D, R174
  | inrD  -- 0x14 INR D, R170
  | dcrD  -- 0x15 DCR D, R172
  | mviD (d8 : Byte)  -- 0x16 MVI D,d8, R143
  | ral  -- 0x17 RAL, R232
  | dadD  -- 0x19 DAD D, R204
  | ldaxD  -- 0x1A LDAX D, R150
  | dcxD  -- 0x1B DCX D, R175
  | inrE  -- 0x1C INR E, R170
  | dcrE  -- 0x1D DCR E, R172
  | mviE (d8 : Byte)  -- 0x1E MVI E,d8, R143
  | rar  -- 0x1F RAR, R233
  | lxiH (d16 : Word)  -- 0x21 LXI H,d16, R145
  | shld (a16 : Word)  -- 0x22 SHLD a16, R149
  | inxH  -- 0x23 INX H, R174
  | inrH  -- 0x24 INR H, R170
  | dcrH  -- 0x25 DCR H, R172
  | mviH (d8 : Byte)  -- 0x26 MVI H,d8, R143
  | daa  -- 0x27 DAA, R240
  | dadH  -- 0x29 DAD H, R204
  | lhld (a16 : Word)  -- 0x2A LHLD a16, R148
  | dcxH  -- 0x2B DCX H, R175
  | inrL  -- 0x2C INR L, R170
  | dcrL  -- 0x2D DCR L, R172
  | mviL (d8 : Byte)  -- 0x2E MVI L,d8, R143
  | cma  -- 0x2F CMA, R205
  | lxiSp (d16 : Word)  -- 0x31 LXI SP,d16, R145
  | sta (a16 : Word)  -- 0x32 STA a16, R147
  | inxSp  -- 0x33 INX SP, R174
  | inrM  -- 0x34 INR M, R171
  | dcrM  -- 0x35 DCR M, R173
  | mviM (d8 : Byte)  -- 0x36 MVI M,d8, R144
  | stc  -- 0x37 STC, R206
  | dadSp  -- 0x39 DAD SP, R204
  | lda (a16 : Word)  -- 0x3A LDA a16, R146
  | dcxSp  -- 0x3B DCX SP, R175
  | inrA  -- 0x3C INR A, R170
  | dcrA  -- 0x3D DCR A, R172
  | mviA (d8 : Byte)  -- 0x3E MVI A,d8, R143
  | cmc  -- 0x3F CMC, R207
  | movBB  -- 0x40 MOV B,B, R140
  | movBC  -- 0x41 MOV B,C, R140
  | movBD  -- 0x42 MOV B,D, R140
  | movBE  -- 0x43 MOV B,E, R140
  | movBH  -- 0x44 MOV B,H, R140
  | movBL  -- 0x45 MOV B,L, R140
  | movBM  -- 0x46 MOV B,M, R141
  | movBA  -- 0x47 MOV B,A, R140
  | movCB  -- 0x48 MOV C,B, R140
  | movCC  -- 0x49 MOV C,C, R140
  | movCD  -- 0x4A MOV C,D, R140
  | movCE  -- 0x4B MOV C,E, R140
  | movCH  -- 0x4C MOV C,H, R140
  | movCL  -- 0x4D MOV C,L, R140
  | movCM  -- 0x4E MOV C,M, R141
  | movCA  -- 0x4F MOV C,A, R140
  | movDB  -- 0x50 MOV D,B, R140
  | movDC  -- 0x51 MOV D,C, R140
  | movDD  -- 0x52 MOV D,D, R140
  | movDE  -- 0x53 MOV D,E, R140
  | movDH  -- 0x54 MOV D,H, R140
  | movDL  -- 0x55 MOV D,L, R140
  | movDM  -- 0x56 MOV D,M, R141
  | movDA  -- 0x57 MOV D,A, R140
  | movEB  -- 0x58 MOV E,B, R140
  | movEC  -- 0x59 MOV E,C, R140
  | movED  -- 0x5A MOV E,D, R140
  | movEE  -- 0x5B MOV E,E, R140
  | movEH  -- 0x5C MOV E,H, R140
  | movEL  -- 0x5D MOV E,L, R140
  | movEM  -- 0x5E MOV E,M, R141
  | movEA  -- 0x5F MOV E,A, R140
  | movHB  -- 0x60 MOV H,B, R140
  | movHC  -- 0x61 MOV H,C, R140
  | movHD  -- 0x62 MOV H,D, R140
  | movHE  -- 0x63 MOV H,E, R140
  | movHH  -- 0x64 MOV H,H, R140
  | movHL  -- 0x65 MOV H,L, R140
  | movHM  -- 0x66 MOV H,M, R141
  | movHA  -- 0x67 MOV H,A, R140
  | movLB  -- 0x68 MOV L,B, R140
  | movLC  -- 0x69 MOV L,C, R140
  | movLD  -- 0x6A MOV L,D, R140
  | movLE  -- 0x6B MOV L,E, R140
  | movLH  -- 0x6C MOV L,H, R140
  | movLL  -- 0x6D MOV L,L, R140
  | movLM  -- 0x6E MOV L,M, R141
  | movLA  -- 0x6F MOV L,A, R140
  | movMB  -- 0x70 MOV M,B, R142
  | movMC  -- 0x71 MOV M,C, R142
  | movMD  -- 0x72 MOV M,D, R142
  | movME  -- 0x73 MOV M,E, R142
  | movMH  -- 0x74 MOV M,H, R142
  | movML  -- 0x75 MOV M,L, R142
  | hlt  -- 0x76 HLT, R131
  | movMA  -- 0x77 MOV M,A, R142
  | movAB  -- 0x78 MOV A,B, R140
  | movAC  -- 0x79 MOV A,C, R140
  | movAD  -- 0x7A MOV A,D, R140
  | movAE  -- 0x7B MOV A,E, R140
  | movAH  -- 0x7C MOV A,H, R140
  | movAL  -- 0x7D MOV A,L, R140
  | movAM  -- 0x7E MOV A,M, R141
  | movAA  -- 0x7F MOV A,A, R140
  | addB  -- 0x80 ADD B, R180
  | addC  -- 0x81 ADD C, R180
  | addD  -- 0x82 ADD D, R180
  | addE  -- 0x83 ADD E, R180
  | addH  -- 0x84 ADD H, R180
  | addL  -- 0x85 ADD L, R180
  | addM  -- 0x86 ADD M, R181
  | addA  -- 0x87 ADD A, R180
  | adcB  -- 0x88 ADC B, R183
  | adcC  -- 0x89 ADC C, R183
  | adcD  -- 0x8A ADC D, R183
  | adcE  -- 0x8B ADC E, R183
  | adcH  -- 0x8C ADC H, R183
  | adcL  -- 0x8D ADC L, R183
  | adcM  -- 0x8E ADC M, R184
  | adcA  -- 0x8F ADC A, R183
  | subB  -- 0x90 SUB B, R186
  | subC  -- 0x91 SUB C, R186
  | subD  -- 0x92 SUB D, R186
  | subE  -- 0x93 SUB E, R186
  | subH  -- 0x94 SUB H, R186
  | subL  -- 0x95 SUB L, R186
  | subM  -- 0x96 SUB M, R187
  | subA  -- 0x97 SUB A, R186
  | sbbB  -- 0x98 SBB B, R189
  | sbbC  -- 0x99 SBB C, R189
  | sbbD  -- 0x9A SBB D, R189
  | sbbE  -- 0x9B SBB E, R189
  | sbbH  -- 0x9C SBB H, R189
  | sbbL  -- 0x9D SBB L, R189
  | sbbM  -- 0x9E SBB M, R190
  | sbbA  -- 0x9F SBB A, R189
  | anaB  -- 0xA0 ANA B, R192
  | anaC  -- 0xA1 ANA C, R192
  | anaD  -- 0xA2 ANA D, R192
  | anaE  -- 0xA3 ANA E, R192
  | anaH  -- 0xA4 ANA H, R192
  | anaL  -- 0xA5 ANA L, R192
  | anaM  -- 0xA6 ANA M, R193
  | anaA  -- 0xA7 ANA A, R192
  | xraB  -- 0xA8 XRA B, R195
  | xraC  -- 0xA9 XRA C, R195
  | xraD  -- 0xAA XRA D, R195
  | xraE  -- 0xAB XRA E, R195
  | xraH  -- 0xAC XRA H, R195
  | xraL  -- 0xAD XRA L, R195
  | xraM  -- 0xAE XRA M, R196
  | xraA  -- 0xAF XRA A, R195
  | oraB  -- 0xB0 ORA B, R198
  | oraC  -- 0xB1 ORA C, R198
  | oraD  -- 0xB2 ORA D, R198
  | oraE  -- 0xB3 ORA E, R198
  | oraH  -- 0xB4 ORA H, R198
  | oraL  -- 0xB5 ORA L, R198
  | oraM  -- 0xB6 ORA M, R199
  | oraA  -- 0xB7 ORA A, R198
  | cmpB  -- 0xB8 CMP B, R201
  | cmpC  -- 0xB9 CMP C, R201
  | cmpD  -- 0xBA CMP D, R201
  | cmpE  -- 0xBB CMP E, R201
  | cmpH  -- 0xBC CMP H, R201
  | cmpL  -- 0xBD CMP L, R201
  | cmpM  -- 0xBE CMP M, R202
  | cmpA  -- 0xBF CMP A, R201
  | rnz  -- 0xC0 RNZ, R275
  | popB  -- 0xC1 POP B, R252
  | jnz (a16 : Word)  -- 0xC2 JNZ a16, R271
  | jmp (a16 : Word)  -- 0xC3 JMP a16, R270
  | cnz (a16 : Word)  -- 0xC4 CNZ a16, R273
  | pushB  -- 0xC5 PUSH B, R250
  | adi (d8 : Byte)  -- 0xC6 ADI d8, R182
  | rst0  -- 0xC7 RST 0, R276
  | rz  -- 0xC8 RZ, R275
  | ret  -- 0xC9 RET, R274
  | jz (a16 : Word)  -- 0xCA JZ a16, R271
  | cz (a16 : Word)  -- 0xCC CZ a16, R273
  | call (a16 : Word)  -- 0xCD CALL a16, R272
  | aci (d8 : Byte)  -- 0xCE ACI d8, R185
  | rst1  -- 0xCF RST 1, R276
  | rnc  -- 0xD0 RNC, R275
  | popD  -- 0xD1 POP D, R252
  | jnc (a16 : Word)  -- 0xD2 JNC a16, R271
  | outPort (p8 : Byte)  -- 0xD3 OUT p8, R308
  | cnc (a16 : Word)  -- 0xD4 CNC a16, R273
  | pushD  -- 0xD5 PUSH D, R250
  | sui (d8 : Byte)  -- 0xD6 SUI d8, R188
  | rst2  -- 0xD7 RST 2, R276
  | rc  -- 0xD8 RC, R275
  | jc (a16 : Word)  -- 0xDA JC a16, R271
  | inPort (p8 : Byte)  -- 0xDB IN p8, R307
  | cc (a16 : Word)  -- 0xDC CC a16, R273
  | sbi (d8 : Byte)  -- 0xDE SBI d8, R191
  | rst3  -- 0xDF RST 3, R276
  | rpo  -- 0xE0 RPO, R275
  | popH  -- 0xE1 POP H, R252
  | jpo (a16 : Word)  -- 0xE2 JPO a16, R271
  | xthl  -- 0xE3 XTHL, R291
  | cpo (a16 : Word)  -- 0xE4 CPO a16, R273
  | pushH  -- 0xE5 PUSH H, R250
  | ani (d8 : Byte)  -- 0xE6 ANI d8, R194
  | rst4  -- 0xE7 RST 4, R276
  | rpe  -- 0xE8 RPE, R275
  | pchl  -- 0xE9 PCHL, R277
  | jpe (a16 : Word)  -- 0xEA JPE a16, R271
  | xchg  -- 0xEB XCHG, R290
  | cpe (a16 : Word)  -- 0xEC CPE a16, R273
  | xri (d8 : Byte)  -- 0xEE XRI d8, R197
  | rst5  -- 0xEF RST 5, R276
  | rp  -- 0xF0 RP, R275
  | popPsw  -- 0xF1 POP PSW, R253
  | jp (a16 : Word)  -- 0xF2 JP a16, R271
  | di  -- 0xF3 DI, R310
  | cp (a16 : Word)  -- 0xF4 CP a16, R273
  | pushPsw  -- 0xF5 PUSH PSW, R251
  | ori (d8 : Byte)  -- 0xF6 ORI d8, R200
  | rst6  -- 0xF7 RST 6, R276
  | rm  -- 0xF8 RM, R275
  | sphl  -- 0xF9 SPHL, R254
  | jm (a16 : Word)  -- 0xFA JM a16, R271
  | ei  -- 0xFB EI, R309
  | cm (a16 : Word)  -- 0xFC CM a16, R273
  | cpi (d8 : Byte)  -- 0xFE CPI d8, R203
  | rst7  -- 0xFF RST 7, R276
  | unimpl08  -- 0x08 no instruction, byte 0x08, R330
  | unimpl10  -- 0x10 no instruction, byte 0x10, R330
  | unimpl18  -- 0x18 no instruction, byte 0x18, R330
  | unimpl20  -- 0x20 no instruction, byte 0x20, R330
  | unimpl28  -- 0x28 no instruction, byte 0x28, R330
  | unimpl30  -- 0x30 no instruction, byte 0x30, R330
  | unimpl38  -- 0x38 no instruction, byte 0x38, R330
  | unimplCB  -- 0xCB no instruction, byte 0xCB, R330
  | unimplD9  -- 0xD9 no instruction, byte 0xD9, R330
  | unimplDD  -- 0xDD no instruction, byte 0xDD, R330
  | unimplED  -- 0xED no instruction, byte 0xED, R330
  | unimplFD  -- 0xFD no instruction, byte 0xFD, R330
  deriving DecidableEq, Repr

/-- The format of an instruction, by its opcode alone (R86). -/
def Instr.format : Instr → Format
  | .nop => .f1
  | .lxiB _ => .f3
  | .staxB => .f1
  | .inxB => .f1
  | .inrB => .f1
  | .dcrB => .f1
  | .mviB _ => .f2
  | .rlc => .f1
  | .dadB => .f1
  | .ldaxB => .f1
  | .dcxB => .f1
  | .inrC => .f1
  | .dcrC => .f1
  | .mviC _ => .f2
  | .rrc => .f1
  | .lxiD _ => .f3
  | .staxD => .f1
  | .inxD => .f1
  | .inrD => .f1
  | .dcrD => .f1
  | .mviD _ => .f2
  | .ral => .f1
  | .dadD => .f1
  | .ldaxD => .f1
  | .dcxD => .f1
  | .inrE => .f1
  | .dcrE => .f1
  | .mviE _ => .f2
  | .rar => .f1
  | .lxiH _ => .f3
  | .shld _ => .f3
  | .inxH => .f1
  | .inrH => .f1
  | .dcrH => .f1
  | .mviH _ => .f2
  | .daa => .f1
  | .dadH => .f1
  | .lhld _ => .f3
  | .dcxH => .f1
  | .inrL => .f1
  | .dcrL => .f1
  | .mviL _ => .f2
  | .cma => .f1
  | .lxiSp _ => .f3
  | .sta _ => .f3
  | .inxSp => .f1
  | .inrM => .f1
  | .dcrM => .f1
  | .mviM _ => .f2
  | .stc => .f1
  | .dadSp => .f1
  | .lda _ => .f3
  | .dcxSp => .f1
  | .inrA => .f1
  | .dcrA => .f1
  | .mviA _ => .f2
  | .cmc => .f1
  | .movBB => .f1
  | .movBC => .f1
  | .movBD => .f1
  | .movBE => .f1
  | .movBH => .f1
  | .movBL => .f1
  | .movBM => .f1
  | .movBA => .f1
  | .movCB => .f1
  | .movCC => .f1
  | .movCD => .f1
  | .movCE => .f1
  | .movCH => .f1
  | .movCL => .f1
  | .movCM => .f1
  | .movCA => .f1
  | .movDB => .f1
  | .movDC => .f1
  | .movDD => .f1
  | .movDE => .f1
  | .movDH => .f1
  | .movDL => .f1
  | .movDM => .f1
  | .movDA => .f1
  | .movEB => .f1
  | .movEC => .f1
  | .movED => .f1
  | .movEE => .f1
  | .movEH => .f1
  | .movEL => .f1
  | .movEM => .f1
  | .movEA => .f1
  | .movHB => .f1
  | .movHC => .f1
  | .movHD => .f1
  | .movHE => .f1
  | .movHH => .f1
  | .movHL => .f1
  | .movHM => .f1
  | .movHA => .f1
  | .movLB => .f1
  | .movLC => .f1
  | .movLD => .f1
  | .movLE => .f1
  | .movLH => .f1
  | .movLL => .f1
  | .movLM => .f1
  | .movLA => .f1
  | .movMB => .f1
  | .movMC => .f1
  | .movMD => .f1
  | .movME => .f1
  | .movMH => .f1
  | .movML => .f1
  | .hlt => .f1
  | .movMA => .f1
  | .movAB => .f1
  | .movAC => .f1
  | .movAD => .f1
  | .movAE => .f1
  | .movAH => .f1
  | .movAL => .f1
  | .movAM => .f1
  | .movAA => .f1
  | .addB => .f1
  | .addC => .f1
  | .addD => .f1
  | .addE => .f1
  | .addH => .f1
  | .addL => .f1
  | .addM => .f1
  | .addA => .f1
  | .adcB => .f1
  | .adcC => .f1
  | .adcD => .f1
  | .adcE => .f1
  | .adcH => .f1
  | .adcL => .f1
  | .adcM => .f1
  | .adcA => .f1
  | .subB => .f1
  | .subC => .f1
  | .subD => .f1
  | .subE => .f1
  | .subH => .f1
  | .subL => .f1
  | .subM => .f1
  | .subA => .f1
  | .sbbB => .f1
  | .sbbC => .f1
  | .sbbD => .f1
  | .sbbE => .f1
  | .sbbH => .f1
  | .sbbL => .f1
  | .sbbM => .f1
  | .sbbA => .f1
  | .anaB => .f1
  | .anaC => .f1
  | .anaD => .f1
  | .anaE => .f1
  | .anaH => .f1
  | .anaL => .f1
  | .anaM => .f1
  | .anaA => .f1
  | .xraB => .f1
  | .xraC => .f1
  | .xraD => .f1
  | .xraE => .f1
  | .xraH => .f1
  | .xraL => .f1
  | .xraM => .f1
  | .xraA => .f1
  | .oraB => .f1
  | .oraC => .f1
  | .oraD => .f1
  | .oraE => .f1
  | .oraH => .f1
  | .oraL => .f1
  | .oraM => .f1
  | .oraA => .f1
  | .cmpB => .f1
  | .cmpC => .f1
  | .cmpD => .f1
  | .cmpE => .f1
  | .cmpH => .f1
  | .cmpL => .f1
  | .cmpM => .f1
  | .cmpA => .f1
  | .rnz => .f1
  | .popB => .f1
  | .jnz _ => .f3
  | .jmp _ => .f3
  | .cnz _ => .f3
  | .pushB => .f1
  | .adi _ => .f2
  | .rst0 => .f1
  | .rz => .f1
  | .ret => .f1
  | .jz _ => .f3
  | .cz _ => .f3
  | .call _ => .f3
  | .aci _ => .f2
  | .rst1 => .f1
  | .rnc => .f1
  | .popD => .f1
  | .jnc _ => .f3
  | .outPort _ => .f2
  | .cnc _ => .f3
  | .pushD => .f1
  | .sui _ => .f2
  | .rst2 => .f1
  | .rc => .f1
  | .jc _ => .f3
  | .inPort _ => .f2
  | .cc _ => .f3
  | .sbi _ => .f2
  | .rst3 => .f1
  | .rpo => .f1
  | .popH => .f1
  | .jpo _ => .f3
  | .xthl => .f1
  | .cpo _ => .f3
  | .pushH => .f1
  | .ani _ => .f2
  | .rst4 => .f1
  | .rpe => .f1
  | .pchl => .f1
  | .jpe _ => .f3
  | .xchg => .f1
  | .cpe _ => .f3
  | .xri _ => .f2
  | .rst5 => .f1
  | .rp => .f1
  | .popPsw => .f1
  | .jp _ => .f3
  | .di => .f1
  | .cp _ => .f3
  | .pushPsw => .f1
  | .ori _ => .f2
  | .rst6 => .f1
  | .rm => .f1
  | .sphl => .f1
  | .jm _ => .f3
  | .ei => .f1
  | .cm _ => .f3
  | .cpi _ => .f2
  | .rst7 => .f1
  | .unimpl08 => .f1
  | .unimpl10 => .f1
  | .unimpl18 => .f1
  | .unimpl20 => .f1
  | .unimpl28 => .f1
  | .unimpl30 => .f1
  | .unimpl38 => .f1
  | .unimplCB => .f1
  | .unimplD9 => .f1
  | .unimplDD => .f1
  | .unimplED => .f1
  | .unimplFD => .f1

/-- The length of an instruction in bytes (R86). -/
def Instr.length (i : Instr) : Nat := i.format.length

end Sys2Proof
end

