-- ==== Sys2Proof/WellFormed.lean ====
section
/-! DEFINITION. Which terms of `Instr` are instructions of the instruction set. Every operand of its type is
admitted: an implemented opcode has no reserved field (30_encoding R88). What is checked is that the row names
an instruction at all: the twelve rows of R88 do not. -/

namespace Sys2Proof

/-- The opcode byte of one of the twelve rows with no instruction (R88). -/
def Instr.unimplementedByte : Instr → Option Byte
  | .nop => none
  | .lxiB _ => none
  | .staxB => none
  | .inxB => none
  | .inrB => none
  | .dcrB => none
  | .mviB _ => none
  | .rlc => none
  | .dadB => none
  | .ldaxB => none
  | .dcxB => none
  | .inrC => none
  | .dcrC => none
  | .mviC _ => none
  | .rrc => none
  | .lxiD _ => none
  | .staxD => none
  | .inxD => none
  | .inrD => none
  | .dcrD => none
  | .mviD _ => none
  | .ral => none
  | .dadD => none
  | .ldaxD => none
  | .dcxD => none
  | .inrE => none
  | .dcrE => none
  | .mviE _ => none
  | .rar => none
  | .lxiH _ => none
  | .shld _ => none
  | .inxH => none
  | .inrH => none
  | .dcrH => none
  | .mviH _ => none
  | .daa => none
  | .dadH => none
  | .lhld _ => none
  | .dcxH => none
  | .inrL => none
  | .dcrL => none
  | .mviL _ => none
  | .cma => none
  | .lxiSp _ => none
  | .sta _ => none
  | .inxSp => none
  | .inrM => none
  | .dcrM => none
  | .mviM _ => none
  | .stc => none
  | .dadSp => none
  | .lda _ => none
  | .dcxSp => none
  | .inrA => none
  | .dcrA => none
  | .mviA _ => none
  | .cmc => none
  | .movBB => none
  | .movBC => none
  | .movBD => none
  | .movBE => none
  | .movBH => none
  | .movBL => none
  | .movBM => none
  | .movBA => none
  | .movCB => none
  | .movCC => none
  | .movCD => none
  | .movCE => none
  | .movCH => none
  | .movCL => none
  | .movCM => none
  | .movCA => none
  | .movDB => none
  | .movDC => none
  | .movDD => none
  | .movDE => none
  | .movDH => none
  | .movDL => none
  | .movDM => none
  | .movDA => none
  | .movEB => none
  | .movEC => none
  | .movED => none
  | .movEE => none
  | .movEH => none
  | .movEL => none
  | .movEM => none
  | .movEA => none
  | .movHB => none
  | .movHC => none
  | .movHD => none
  | .movHE => none
  | .movHH => none
  | .movHL => none
  | .movHM => none
  | .movHA => none
  | .movLB => none
  | .movLC => none
  | .movLD => none
  | .movLE => none
  | .movLH => none
  | .movLL => none
  | .movLM => none
  | .movLA => none
  | .movMB => none
  | .movMC => none
  | .movMD => none
  | .movME => none
  | .movMH => none
  | .movML => none
  | .hlt => none
  | .movMA => none
  | .movAB => none
  | .movAC => none
  | .movAD => none
  | .movAE => none
  | .movAH => none
  | .movAL => none
  | .movAM => none
  | .movAA => none
  | .addB => none
  | .addC => none
  | .addD => none
  | .addE => none
  | .addH => none
  | .addL => none
  | .addM => none
  | .addA => none
  | .adcB => none
  | .adcC => none
  | .adcD => none
  | .adcE => none
  | .adcH => none
  | .adcL => none
  | .adcM => none
  | .adcA => none
  | .subB => none
  | .subC => none
  | .subD => none
  | .subE => none
  | .subH => none
  | .subL => none
  | .subM => none
  | .subA => none
  | .sbbB => none
  | .sbbC => none
  | .sbbD => none
  | .sbbE => none
  | .sbbH => none
  | .sbbL => none
  | .sbbM => none
  | .sbbA => none
  | .anaB => none
  | .anaC => none
  | .anaD => none
  | .anaE => none
  | .anaH => none
  | .anaL => none
  | .anaM => none
  | .anaA => none
  | .xraB => none
  | .xraC => none
  | .xraD => none
  | .xraE => none
  | .xraH => none
  | .xraL => none
  | .xraM => none
  | .xraA => none
  | .oraB => none
  | .oraC => none
  | .oraD => none
  | .oraE => none
  | .oraH => none
  | .oraL => none
  | .oraM => none
  | .oraA => none
  | .cmpB => none
  | .cmpC => none
  | .cmpD => none
  | .cmpE => none
  | .cmpH => none
  | .cmpL => none
  | .cmpM => none
  | .cmpA => none
  | .rnz => none
  | .popB => none
  | .jnz _ => none
  | .jmp _ => none
  | .cnz _ => none
  | .pushB => none
  | .adi _ => none
  | .rst0 => none
  | .rz => none
  | .ret => none
  | .jz _ => none
  | .cz _ => none
  | .call _ => none
  | .aci _ => none
  | .rst1 => none
  | .rnc => none
  | .popD => none
  | .jnc _ => none
  | .outPort _ => none
  | .cnc _ => none
  | .pushD => none
  | .sui _ => none
  | .rst2 => none
  | .rc => none
  | .jc _ => none
  | .inPort _ => none
  | .cc _ => none
  | .sbi _ => none
  | .rst3 => none
  | .rpo => none
  | .popH => none
  | .jpo _ => none
  | .xthl => none
  | .cpo _ => none
  | .pushH => none
  | .ani _ => none
  | .rst4 => none
  | .rpe => none
  | .pchl => none
  | .jpe _ => none
  | .xchg => none
  | .cpe _ => none
  | .xri _ => none
  | .rst5 => none
  | .rp => none
  | .popPsw => none
  | .jp _ => none
  | .di => none
  | .cp _ => none
  | .pushPsw => none
  | .ori _ => none
  | .rst6 => none
  | .rm => none
  | .sphl => none
  | .jm _ => none
  | .ei => none
  | .cm _ => none
  | .cpi _ => none
  | .rst7 => none
  | .unimpl08 => some 0x08
  | .unimpl10 => some 0x10
  | .unimpl18 => some 0x18
  | .unimpl20 => some 0x20
  | .unimpl28 => some 0x28
  | .unimpl30 => some 0x30
  | .unimpl38 => some 0x38
  | .unimplCB => some 0xCB
  | .unimplD9 => some 0xD9
  | .unimplDD => some 0xDD
  | .unimplED => some 0xED
  | .unimplFD => some 0xFD

/-- The row names one of the 244 instructions (R88, R89). -/
def Instr.wellFormed (i : Instr) : Bool := i.unimplementedByte.isNone

end Sys2Proof
end

