-- ==== Sys2Proof/Decode.lean ====
section
/-! DEFINITION. The decoder, one function for each row of the opcode map of 30_encoding R87, and the encoder.
The opcode byte alone selects the instruction (R80, R102); operands are unsigned and low byte first (R85). -/

namespace Sys2Proof

/-- The row 0x of the map (R87): `lo` is the low hex digit, `d8` byte 1, `d16` bytes 2 and 1. -/
def decodeRow0 (lo : Nat) (d8 : Byte) (d16 : Word) : Instr :=
  match lo with
  | 0x0 => .nop
  | 0x1 => .lxiB d16
  | 0x2 => .staxB
  | 0x3 => .inxB
  | 0x4 => .inrB
  | 0x5 => .dcrB
  | 0x6 => .mviB d8
  | 0x7 => .rlc
  | 0x8 => .unimpl08
  | 0x9 => .dadB
  | 0xA => .ldaxB
  | 0xB => .dcxB
  | 0xC => .inrC
  | 0xD => .dcrC
  | 0xE => .mviC d8
  | _   => .rrc

/-- The row 1x of the map (R87): `lo` is the low hex digit, `d8` byte 1, `d16` bytes 2 and 1. -/
def decodeRow1 (lo : Nat) (d8 : Byte) (d16 : Word) : Instr :=
  match lo with
  | 0x0 => .unimpl10
  | 0x1 => .lxiD d16
  | 0x2 => .staxD
  | 0x3 => .inxD
  | 0x4 => .inrD
  | 0x5 => .dcrD
  | 0x6 => .mviD d8
  | 0x7 => .ral
  | 0x8 => .unimpl18
  | 0x9 => .dadD
  | 0xA => .ldaxD
  | 0xB => .dcxD
  | 0xC => .inrE
  | 0xD => .dcrE
  | 0xE => .mviE d8
  | _   => .rar

/-- The row 2x of the map (R87): `lo` is the low hex digit, `d8` byte 1, `d16` bytes 2 and 1. -/
def decodeRow2 (lo : Nat) (d8 : Byte) (d16 : Word) : Instr :=
  match lo with
  | 0x0 => .unimpl20
  | 0x1 => .lxiH d16
  | 0x2 => .shld d16
  | 0x3 => .inxH
  | 0x4 => .inrH
  | 0x5 => .dcrH
  | 0x6 => .mviH d8
  | 0x7 => .daa
  | 0x8 => .unimpl28
  | 0x9 => .dadH
  | 0xA => .lhld d16
  | 0xB => .dcxH
  | 0xC => .inrL
  | 0xD => .dcrL
  | 0xE => .mviL d8
  | _   => .cma

/-- The row 3x of the map (R87): `lo` is the low hex digit, `d8` byte 1, `d16` bytes 2 and 1. -/
def decodeRow3 (lo : Nat) (d8 : Byte) (d16 : Word) : Instr :=
  match lo with
  | 0x0 => .unimpl30
  | 0x1 => .lxiSp d16
  | 0x2 => .sta d16
  | 0x3 => .inxSp
  | 0x4 => .inrM
  | 0x5 => .dcrM
  | 0x6 => .mviM d8
  | 0x7 => .stc
  | 0x8 => .unimpl38
  | 0x9 => .dadSp
  | 0xA => .lda d16
  | 0xB => .dcxSp
  | 0xC => .inrA
  | 0xD => .dcrA
  | 0xE => .mviA d8
  | _   => .cmc

/-- The row 4x of the map (R87): `lo` is the low hex digit, `d8` byte 1, `d16` bytes 2 and 1. -/
def decodeRow4 (lo : Nat) (_d8 : Byte) (_d16 : Word) : Instr :=
  match lo with
  | 0x0 => .movBB
  | 0x1 => .movBC
  | 0x2 => .movBD
  | 0x3 => .movBE
  | 0x4 => .movBH
  | 0x5 => .movBL
  | 0x6 => .movBM
  | 0x7 => .movBA
  | 0x8 => .movCB
  | 0x9 => .movCC
  | 0xA => .movCD
  | 0xB => .movCE
  | 0xC => .movCH
  | 0xD => .movCL
  | 0xE => .movCM
  | _   => .movCA

/-- The row 5x of the map (R87): `lo` is the low hex digit, `d8` byte 1, `d16` bytes 2 and 1. -/
def decodeRow5 (lo : Nat) (_d8 : Byte) (_d16 : Word) : Instr :=
  match lo with
  | 0x0 => .movDB
  | 0x1 => .movDC
  | 0x2 => .movDD
  | 0x3 => .movDE
  | 0x4 => .movDH
  | 0x5 => .movDL
  | 0x6 => .movDM
  | 0x7 => .movDA
  | 0x8 => .movEB
  | 0x9 => .movEC
  | 0xA => .movED
  | 0xB => .movEE
  | 0xC => .movEH
  | 0xD => .movEL
  | 0xE => .movEM
  | _   => .movEA

/-- The row 6x of the map (R87): `lo` is the low hex digit, `d8` byte 1, `d16` bytes 2 and 1. -/
def decodeRow6 (lo : Nat) (_d8 : Byte) (_d16 : Word) : Instr :=
  match lo with
  | 0x0 => .movHB
  | 0x1 => .movHC
  | 0x2 => .movHD
  | 0x3 => .movHE
  | 0x4 => .movHH
  | 0x5 => .movHL
  | 0x6 => .movHM
  | 0x7 => .movHA
  | 0x8 => .movLB
  | 0x9 => .movLC
  | 0xA => .movLD
  | 0xB => .movLE
  | 0xC => .movLH
  | 0xD => .movLL
  | 0xE => .movLM
  | _   => .movLA

/-- The row 7x of the map (R87): `lo` is the low hex digit, `d8` byte 1, `d16` bytes 2 and 1. -/
def decodeRow7 (lo : Nat) (_d8 : Byte) (_d16 : Word) : Instr :=
  match lo with
  | 0x0 => .movMB
  | 0x1 => .movMC
  | 0x2 => .movMD
  | 0x3 => .movME
  | 0x4 => .movMH
  | 0x5 => .movML
  | 0x6 => .hlt
  | 0x7 => .movMA
  | 0x8 => .movAB
  | 0x9 => .movAC
  | 0xA => .movAD
  | 0xB => .movAE
  | 0xC => .movAH
  | 0xD => .movAL
  | 0xE => .movAM
  | _   => .movAA

/-- The row 8x of the map (R87): `lo` is the low hex digit, `d8` byte 1, `d16` bytes 2 and 1. -/
def decodeRow8 (lo : Nat) (_d8 : Byte) (_d16 : Word) : Instr :=
  match lo with
  | 0x0 => .addB
  | 0x1 => .addC
  | 0x2 => .addD
  | 0x3 => .addE
  | 0x4 => .addH
  | 0x5 => .addL
  | 0x6 => .addM
  | 0x7 => .addA
  | 0x8 => .adcB
  | 0x9 => .adcC
  | 0xA => .adcD
  | 0xB => .adcE
  | 0xC => .adcH
  | 0xD => .adcL
  | 0xE => .adcM
  | _   => .adcA

/-- The row 9x of the map (R87): `lo` is the low hex digit, `d8` byte 1, `d16` bytes 2 and 1. -/
def decodeRow9 (lo : Nat) (_d8 : Byte) (_d16 : Word) : Instr :=
  match lo with
  | 0x0 => .subB
  | 0x1 => .subC
  | 0x2 => .subD
  | 0x3 => .subE
  | 0x4 => .subH
  | 0x5 => .subL
  | 0x6 => .subM
  | 0x7 => .subA
  | 0x8 => .sbbB
  | 0x9 => .sbbC
  | 0xA => .sbbD
  | 0xB => .sbbE
  | 0xC => .sbbH
  | 0xD => .sbbL
  | 0xE => .sbbM
  | _   => .sbbA

/-- The row Ax of the map (R87): `lo` is the low hex digit, `d8` byte 1, `d16` bytes 2 and 1. -/
def decodeRowA (lo : Nat) (_d8 : Byte) (_d16 : Word) : Instr :=
  match lo with
  | 0x0 => .anaB
  | 0x1 => .anaC
  | 0x2 => .anaD
  | 0x3 => .anaE
  | 0x4 => .anaH
  | 0x5 => .anaL
  | 0x6 => .anaM
  | 0x7 => .anaA
  | 0x8 => .xraB
  | 0x9 => .xraC
  | 0xA => .xraD
  | 0xB => .xraE
  | 0xC => .xraH
  | 0xD => .xraL
  | 0xE => .xraM
  | _   => .xraA

/-- The row Bx of the map (R87): `lo` is the low hex digit, `d8` byte 1, `d16` bytes 2 and 1. -/
def decodeRowB (lo : Nat) (_d8 : Byte) (_d16 : Word) : Instr :=
  match lo with
  | 0x0 => .oraB
  | 0x1 => .oraC
  | 0x2 => .oraD
  | 0x3 => .oraE
  | 0x4 => .oraH
  | 0x5 => .oraL
  | 0x6 => .oraM
  | 0x7 => .oraA
  | 0x8 => .cmpB
  | 0x9 => .cmpC
  | 0xA => .cmpD
  | 0xB => .cmpE
  | 0xC => .cmpH
  | 0xD => .cmpL
  | 0xE => .cmpM
  | _   => .cmpA

/-- The row Cx of the map (R87): `lo` is the low hex digit, `d8` byte 1, `d16` bytes 2 and 1. -/
def decodeRowC (lo : Nat) (d8 : Byte) (d16 : Word) : Instr :=
  match lo with
  | 0x0 => .rnz
  | 0x1 => .popB
  | 0x2 => .jnz d16
  | 0x3 => .jmp d16
  | 0x4 => .cnz d16
  | 0x5 => .pushB
  | 0x6 => .adi d8
  | 0x7 => .rst0
  | 0x8 => .rz
  | 0x9 => .ret
  | 0xA => .jz d16
  | 0xB => .unimplCB
  | 0xC => .cz d16
  | 0xD => .call d16
  | 0xE => .aci d8
  | _   => .rst1

/-- The row Dx of the map (R87): `lo` is the low hex digit, `d8` byte 1, `d16` bytes 2 and 1. -/
def decodeRowD (lo : Nat) (d8 : Byte) (d16 : Word) : Instr :=
  match lo with
  | 0x0 => .rnc
  | 0x1 => .popD
  | 0x2 => .jnc d16
  | 0x3 => .outPort d8
  | 0x4 => .cnc d16
  | 0x5 => .pushD
  | 0x6 => .sui d8
  | 0x7 => .rst2
  | 0x8 => .rc
  | 0x9 => .unimplD9
  | 0xA => .jc d16
  | 0xB => .inPort d8
  | 0xC => .cc d16
  | 0xD => .unimplDD
  | 0xE => .sbi d8
  | _   => .rst3

/-- The row Ex of the map (R87): `lo` is the low hex digit, `d8` byte 1, `d16` bytes 2 and 1. -/
def decodeRowE (lo : Nat) (d8 : Byte) (d16 : Word) : Instr :=
  match lo with
  | 0x0 => .rpo
  | 0x1 => .popH
  | 0x2 => .jpo d16
  | 0x3 => .xthl
  | 0x4 => .cpo d16
  | 0x5 => .pushH
  | 0x6 => .ani d8
  | 0x7 => .rst4
  | 0x8 => .rpe
  | 0x9 => .pchl
  | 0xA => .jpe d16
  | 0xB => .xchg
  | 0xC => .cpe d16
  | 0xD => .unimplED
  | 0xE => .xri d8
  | _   => .rst5

/-- The row Fx of the map (R87): `lo` is the low hex digit, `d8` byte 1, `d16` bytes 2 and 1. -/
def decodeRowF (lo : Nat) (d8 : Byte) (d16 : Word) : Instr :=
  match lo with
  | 0x0 => .rp
  | 0x1 => .popPsw
  | 0x2 => .jp d16
  | 0x3 => .di
  | 0x4 => .cp d16
  | 0x5 => .pushPsw
  | 0x6 => .ori d8
  | 0x7 => .rst6
  | 0x8 => .rm
  | 0x9 => .sphl
  | 0xA => .jm d16
  | 0xB => .ei
  | 0xC => .cm d16
  | 0xD => .unimplFD
  | 0xE => .cpi d8
  | _   => .rst7

/-- The instruction whose opcode byte is `op` and whose bytes 1 and 2, where it has them, are `b1` and `b2`.
Total: every opcode byte is one row (R89). -/
def decode3 (op b1 b2 : Byte) : Instr :=
  let lo := op.toNat % 16
  let d16 : Word := b2 ++ b1
  match op.toNat / 16 with
  | 0x0 => decodeRow0 lo b1 d16
  | 0x1 => decodeRow1 lo b1 d16
  | 0x2 => decodeRow2 lo b1 d16
  | 0x3 => decodeRow3 lo b1 d16
  | 0x4 => decodeRow4 lo b1 d16
  | 0x5 => decodeRow5 lo b1 d16
  | 0x6 => decodeRow6 lo b1 d16
  | 0x7 => decodeRow7 lo b1 d16
  | 0x8 => decodeRow8 lo b1 d16
  | 0x9 => decodeRow9 lo b1 d16
  | 0xA => decodeRowA lo b1 d16
  | 0xB => decodeRowB lo b1 d16
  | 0xC => decodeRowC lo b1 d16
  | 0xD => decodeRowD lo b1 d16
  | 0xE => decodeRowE lo b1 d16
  | _   => decodeRowF lo b1 d16

/-- The length of the instruction an opcode byte begins: a function of that byte alone (R86). -/
def opcodeLength (op : Byte) : Nat := (decode3 op 0 0).length

/-- What decoding a list of bytes gives. -/
inductive DecodeResult where
  /-- The instruction and the bytes after it. -/
  | ok (i : Instr) (rest : List Byte)
  /-- Refused: there is no byte to decode. -/
  | noBytes
  /-- Refused: the bytes end before the operand of this opcode does. -/
  | operandMissing (opcode : Byte)
  deriving DecidableEq, Repr

/-- Decode the first instruction of a list of bytes: total, and refusing by name what is cut short. -/
def decode (bytes : List Byte) : DecodeResult :=
  match bytes with
  | [] => .noBytes
  | op :: rest =>
    match (decode3 op 0 0).format, rest with
    | .f1, rest => .ok (decode3 op 0 0) rest
    | .f2, b1 :: rest => .ok (decode3 op b1 0) rest
    | .f3, b1 :: b2 :: rest => .ok (decode3 op b1 b2) rest
    | _, _ => .operandMissing op

/-- The low byte of a 16-bit operand, byte 1 (R85). -/
def lowByte (v : Word) : Byte := v.extractLsb' 0 8

/-- The high byte of a 16-bit operand, byte 2 (R85). -/
def highByte (v : Word) : Byte := v.extractLsb' 8 8

/-- The bytes of an instruction, opcode first (R80, R85, R87). -/
def encode : Instr → List Byte
  | .nop => [0x00]
  | .lxiB d16 => [0x01, lowByte d16, highByte d16]
  | .staxB => [0x02]
  | .inxB => [0x03]
  | .inrB => [0x04]
  | .dcrB => [0x05]
  | .mviB d8 => [0x06, d8]
  | .rlc => [0x07]
  | .dadB => [0x09]
  | .ldaxB => [0x0A]
  | .dcxB => [0x0B]
  | .inrC => [0x0C]
  | .dcrC => [0x0D]
  | .mviC d8 => [0x0E, d8]
  | .rrc => [0x0F]
  | .lxiD d16 => [0x11, lowByte d16, highByte d16]
  | .staxD => [0x12]
  | .inxD => [0x13]
  | .inrD => [0x14]
  | .dcrD => [0x15]
  | .mviD d8 => [0x16, d8]
  | .ral => [0x17]
  | .dadD => [0x19]
  | .ldaxD => [0x1A]
  | .dcxD => [0x1B]
  | .inrE => [0x1C]
  | .dcrE => [0x1D]
  | .mviE d8 => [0x1E, d8]
  | .rar => [0x1F]
  | .lxiH d16 => [0x21, lowByte d16, highByte d16]
  | .shld a16 => [0x22, lowByte a16, highByte a16]
  | .inxH => [0x23]
  | .inrH => [0x24]
  | .dcrH => [0x25]
  | .mviH d8 => [0x26, d8]
  | .daa => [0x27]
  | .dadH => [0x29]
  | .lhld a16 => [0x2A, lowByte a16, highByte a16]
  | .dcxH => [0x2B]
  | .inrL => [0x2C]
  | .dcrL => [0x2D]
  | .mviL d8 => [0x2E, d8]
  | .cma => [0x2F]
  | .lxiSp d16 => [0x31, lowByte d16, highByte d16]
  | .sta a16 => [0x32, lowByte a16, highByte a16]
  | .inxSp => [0x33]
  | .inrM => [0x34]
  | .dcrM => [0x35]
  | .mviM d8 => [0x36, d8]
  | .stc => [0x37]
  | .dadSp => [0x39]
  | .lda a16 => [0x3A, lowByte a16, highByte a16]
  | .dcxSp => [0x3B]
  | .inrA => [0x3C]
  | .dcrA => [0x3D]
  | .mviA d8 => [0x3E, d8]
  | .cmc => [0x3F]
  | .movBB => [0x40]
  | .movBC => [0x41]
  | .movBD => [0x42]
  | .movBE => [0x43]
  | .movBH => [0x44]
  | .movBL => [0x45]
  | .movBM => [0x46]
  | .movBA => [0x47]
  | .movCB => [0x48]
  | .movCC => [0x49]
  | .movCD => [0x4A]
  | .movCE => [0x4B]
  | .movCH => [0x4C]
  | .movCL => [0x4D]
  | .movCM => [0x4E]
  | .movCA => [0x4F]
  | .movDB => [0x50]
  | .movDC => [0x51]
  | .movDD => [0x52]
  | .movDE => [0x53]
  | .movDH => [0x54]
  | .movDL => [0x55]
  | .movDM => [0x56]
  | .movDA => [0x57]
  | .movEB => [0x58]
  | .movEC => [0x59]
  | .movED => [0x5A]
  | .movEE => [0x5B]
  | .movEH => [0x5C]
  | .movEL => [0x5D]
  | .movEM => [0x5E]
  | .movEA => [0x5F]
  | .movHB => [0x60]
  | .movHC => [0x61]
  | .movHD => [0x62]
  | .movHE => [0x63]
  | .movHH => [0x64]
  | .movHL => [0x65]
  | .movHM => [0x66]
  | .movHA => [0x67]
  | .movLB => [0x68]
  | .movLC => [0x69]
  | .movLD => [0x6A]
  | .movLE => [0x6B]
  | .movLH => [0x6C]
  | .movLL => [0x6D]
  | .movLM => [0x6E]
  | .movLA => [0x6F]
  | .movMB => [0x70]
  | .movMC => [0x71]
  | .movMD => [0x72]
  | .movME => [0x73]
  | .movMH => [0x74]
  | .movML => [0x75]
  | .hlt => [0x76]
  | .movMA => [0x77]
  | .movAB => [0x78]
  | .movAC => [0x79]
  | .movAD => [0x7A]
  | .movAE => [0x7B]
  | .movAH => [0x7C]
  | .movAL => [0x7D]
  | .movAM => [0x7E]
  | .movAA => [0x7F]
  | .addB => [0x80]
  | .addC => [0x81]
  | .addD => [0x82]
  | .addE => [0x83]
  | .addH => [0x84]
  | .addL => [0x85]
  | .addM => [0x86]
  | .addA => [0x87]
  | .adcB => [0x88]
  | .adcC => [0x89]
  | .adcD => [0x8A]
  | .adcE => [0x8B]
  | .adcH => [0x8C]
  | .adcL => [0x8D]
  | .adcM => [0x8E]
  | .adcA => [0x8F]
  | .subB => [0x90]
  | .subC => [0x91]
  | .subD => [0x92]
  | .subE => [0x93]
  | .subH => [0x94]
  | .subL => [0x95]
  | .subM => [0x96]
  | .subA => [0x97]
  | .sbbB => [0x98]
  | .sbbC => [0x99]
  | .sbbD => [0x9A]
  | .sbbE => [0x9B]
  | .sbbH => [0x9C]
  | .sbbL => [0x9D]
  | .sbbM => [0x9E]
  | .sbbA => [0x9F]
  | .anaB => [0xA0]
  | .anaC => [0xA1]
  | .anaD => [0xA2]
  | .anaE => [0xA3]
  | .anaH => [0xA4]
  | .anaL => [0xA5]
  | .anaM => [0xA6]
  | .anaA => [0xA7]
  | .xraB => [0xA8]
  | .xraC => [0xA9]
  | .xraD => [0xAA]
  | .xraE => [0xAB]
  | .xraH => [0xAC]
  | .xraL => [0xAD]
  | .xraM => [0xAE]
  | .xraA => [0xAF]
  | .oraB => [0xB0]
  | .oraC => [0xB1]
  | .oraD => [0xB2]
  | .oraE => [0xB3]
  | .oraH => [0xB4]
  | .oraL => [0xB5]
  | .oraM => [0xB6]
  | .oraA => [0xB7]
  | .cmpB => [0xB8]
  | .cmpC => [0xB9]
  | .cmpD => [0xBA]
  | .cmpE => [0xBB]
  | .cmpH => [0xBC]
  | .cmpL => [0xBD]
  | .cmpM => [0xBE]
  | .cmpA => [0xBF]
  | .rnz => [0xC0]
  | .popB => [0xC1]
  | .jnz a16 => [0xC2, lowByte a16, highByte a16]
  | .jmp a16 => [0xC3, lowByte a16, highByte a16]
  | .cnz a16 => [0xC4, lowByte a16, highByte a16]
  | .pushB => [0xC5]
  | .adi d8 => [0xC6, d8]
  | .rst0 => [0xC7]
  | .rz => [0xC8]
  | .ret => [0xC9]
  | .jz a16 => [0xCA, lowByte a16, highByte a16]
  | .cz a16 => [0xCC, lowByte a16, highByte a16]
  | .call a16 => [0xCD, lowByte a16, highByte a16]
  | .aci d8 => [0xCE, d8]
  | .rst1 => [0xCF]
  | .rnc => [0xD0]
  | .popD => [0xD1]
  | .jnc a16 => [0xD2, lowByte a16, highByte a16]
  | .outPort p8 => [0xD3, p8]
  | .cnc a16 => [0xD4, lowByte a16, highByte a16]
  | .pushD => [0xD5]
  | .sui d8 => [0xD6, d8]
  | .rst2 => [0xD7]
  | .rc => [0xD8]
  | .jc a16 => [0xDA, lowByte a16, highByte a16]
  | .inPort p8 => [0xDB, p8]
  | .cc a16 => [0xDC, lowByte a16, highByte a16]
  | .sbi d8 => [0xDE, d8]
  | .rst3 => [0xDF]
  | .rpo => [0xE0]
  | .popH => [0xE1]
  | .jpo a16 => [0xE2, lowByte a16, highByte a16]
  | .xthl => [0xE3]
  | .cpo a16 => [0xE4, lowByte a16, highByte a16]
  | .pushH => [0xE5]
  | .ani d8 => [0xE6, d8]
  | .rst4 => [0xE7]
  | .rpe => [0xE8]
  | .pchl => [0xE9]
  | .jpe a16 => [0xEA, lowByte a16, highByte a16]
  | .xchg => [0xEB]
  | .cpe a16 => [0xEC, lowByte a16, highByte a16]
  | .xri d8 => [0xEE, d8]
  | .rst5 => [0xEF]
  | .rp => [0xF0]
  | .popPsw => [0xF1]
  | .jp a16 => [0xF2, lowByte a16, highByte a16]
  | .di => [0xF3]
  | .cp a16 => [0xF4, lowByte a16, highByte a16]
  | .pushPsw => [0xF5]
  | .ori d8 => [0xF6, d8]
  | .rst6 => [0xF7]
  | .rm => [0xF8]
  | .sphl => [0xF9]
  | .jm a16 => [0xFA, lowByte a16, highByte a16]
  | .ei => [0xFB]
  | .cm a16 => [0xFC, lowByte a16, highByte a16]
  | .cpi d8 => [0xFE, d8]
  | .rst7 => [0xFF]
  | .unimpl08 => [0x08]
  | .unimpl10 => [0x10]
  | .unimpl18 => [0x18]
  | .unimpl20 => [0x20]
  | .unimpl28 => [0x28]
  | .unimpl30 => [0x30]
  | .unimpl38 => [0x38]
  | .unimplCB => [0xCB]
  | .unimplD9 => [0xD9]
  | .unimplDD => [0xDD]
  | .unimplED => [0xED]
  | .unimplFD => [0xFD]

/-- The `k`-th byte of an instruction whose bits are `w`, numbered from the first byte's bit 0, of which the
lowest `nbits` are given and the others are 0. -/
def tableByte (nbits w k : Nat) : Byte := BitVec.ofNat 8 ((w % 2 ^ nbits) / 256 ^ k)

/-- The instruction the decoder reads from bits numbered as spec/opcode_table.json numbers them. -/
def decodeTableWord (nbits w : Nat) : Option Instr :=
  match decode [tableByte nbits w 0, tableByte nbits w 1, tableByte nbits w 2] with
  | .ok i _ => some i
  | .noBytes => none
  | .operandMissing _ => none

end Sys2Proof
end

