-- ==== Sys2Proof/Config.lean ====
section
/-! DEFINITION. The named parameters of 00_scope R8. Those a core rule reads are the fields of `Config`, which
State carries as plain data (log entry 1), so that every statement covers each of their values. The values
only the host knows are opaque constants: nothing in Lean can evaluate them. -/

namespace Sys2Proof

/-- `UNIMPL_POLICY`: what the driver does with the unimplemented outcome (R8, R331). -/
inductive UnimplPolicy where
  | fatal
  | nop
  deriving DecidableEq, Repr

/-- `HALT_POLICY`: whether an accepted interrupt ends a halt (R8, R333). -/
inductive HaltPolicy where
  | terminal
  | wakeOnInterrupt
  deriving DecidableEq, Repr

/-- `ANA_AC`: the auxiliary carry ANA and ANI write (R8, R113). -/
inductive AnaAC where
  | clear
  | intel
  deriving DecidableEq, Repr

/-- The parameters of R8 that a rule of the core reads. -/
structure Config where
  unimplPolicy : UnimplPolicy
  haltPolicy   : HaltPolicy
  /-- `ACK_CLEARS_IE` (R343). -/
  ackClearsIE  : Bool
  /-- `PSW_PAD`, bits 7:5 of the pushed flag byte (R27). -/
  pswPad       : BitVec 3
  anaAC        : AnaAC
  deriving DecidableEq, Repr

/-- The default of every parameter, as R8 lists it. -/
def Config.default : Config where
  unimplPolicy := .fatal
  haltPolicy   := .terminal
  ackClearsIE  := false
  pswPad       := 0b000
  anaAC        := .clear

/-- `UNMAPPED_IN` (R305, D16): the byte the host answers to IN from a port that is not 1, 2 or 3. A FREE
VALUE, one for each port and each such read (log entry 2). -/
opaque Config.unmappedIn (port : Byte) (draw : Nat) : Byte

/-- `VIDEO_BASE` (R60, D25), left open by the spec; no rule of the core reads it (log entry 8). -/
opaque Config.videoBase : Word

/-- `VIDEO_W` (R60, D25), in pixels; no rule of the core reads it (log entry 8). -/
opaque Config.videoW : Nat

/-- `VIDEO_H` (R60, D25), in pixels; no rule of the core reads it (log entry 8). -/
opaque Config.videoH : Nat

end Sys2Proof
end

