-- ==== Sys2Proof/Machine/State.lean ====
section
/-! DEFINITION. The state of the block as plain data: everything 10_state R20-R34 lists, and three fields of
the model's own (`cfg`, `draws`, `outLog`; log entries 1, 2, 3). -/

namespace Sys2Proof.Machine

/-- The seven general registers (R20). -/
structure Regs where
  a : Byte
  b : Byte
  c : Byte
  d : Byte
  e : Byte
  h : Byte
  l : Byte
  deriving DecidableEq, Repr

/-- The flag register, five single bits (R26). -/
structure Flags where
  z  : Bool
  s  : Bool
  p  : Bool
  cy : Bool
  ac : Bool
  deriving DecidableEq, Repr

/-- The input port registers (R31) and the shift-register peripheral (R32). -/
structure Ports where
  in1         : Byte
  in2         : Byte
  shift0      : Byte
  shift1      : Byte
  shiftAmount : BitVec 3
  deriving DecidableEq, Repr

/-- The record `Unimplemented(addr, opcode)` (R30). -/
structure FaultRecord where
  addr   : Word
  opcode : Byte
  deriving DecidableEq, Repr

/-- An output event of a step: OUT of `value` to the unmapped port `port` (R306, D17). -/
structure PortEvent where
  port  : Byte
  value : Byte
  deriving DecidableEq, Repr

/-- The 65536 bytes of R34 as (address, byte) pairs: addresses strictly rising, no byte equal to what an
unlisted address reads as (`Memory.unlisted`, `Memory.wf` in Machine/Ops.lean). -/
abbrev Memory := List Host.Cell

/-- Every piece of state the spec gives the block (R20-R34), and the model's own `cfg`, `draws`, `outLog`. -/
structure State where
  regs   : Regs
  flags  : Flags
  /-- The stack pointer (R25). -/
  sp     : Word
  /-- The program counter (R24): between steps, the address of the next instruction's opcode. -/
  pc     : Word
  /-- The interrupt-enable bit IE (R28). -/
  ie     : Bool
  /-- HLT was executed (R29). -/
  halted : Bool
  /-- The first unimplemented opcode met, if any (R30). -/
  fault  : Option FaultRecord
  ports  : Ports
  mem    : Memory
  /-- The model's own: the parameters of R8 (log entry 1). -/
  cfg    : Config
  /-- The model's own: how many unmapped IN reads the host has answered (log entry 2). -/
  draws  : Nat
  /-- The model's own: the OUT events to unmapped ports, oldest first (log entry 3). -/
  outLog : List PortEvent
  deriving DecidableEq, Repr

/-- Reasons a step can stop. There are none: a step of this block is total and never faults (R105, R334),
the Unimplemented outcome being a recorded next state (R330). Nobody raises one. -/
inductive Fault where
  deriving DecidableEq, Repr

/-- Reasons a request can be refused. -/
inductive Refusal where
  /-- Raised by an arm of `exec` whose instruction has no meaning yet; none is left. Safe. -/
  | notModelled (mnemonic : String)
  /-- Raised by `requestInterrupt` for a vector index above 7, which R340 puts outside the interface. Safe:
  the spec says the model refuses it. No step raises it. -/
  | badVectorIndex (n : Nat)
  deriving DecidableEq, Repr

/-- What a meaning answers. -/
abbrev Result := Host.Outcome State Fault Refusal

/-- The machine right after reset, the creation of the state (R37, R370, R371): everything zero, nothing
loaded, the parameters at R8's defaults. -/
def State.reset : State where
  regs   := { a := 0, b := 0, c := 0, d := 0, e := 0, h := 0, l := 0 }
  flags  := { z := false, s := false, p := false, cy := false, ac := false }
  sp     := 0x0000
  pc     := 0x0000
  ie     := false
  halted := false
  fault  := none
  ports  := { in1 := 0, in2 := 0, shift0 := 0, shift1 := 0, shiftAmount := 0 }
  mem    := []
  cfg    := Config.default
  draws  := 0
  outLog := []

end Sys2Proof.Machine
end

