-- ==== Sys2Proof/Machine/Flags.lean ====
section
/-! DEFINITION. The flag engine: 40_dispatch_alu R110-R118, the packed flag byte of 10_state R27, and the
condition function. -/

namespace Sys2Proof.Machine

/-- `popcount(v)` (R9). -/
def popcount (v : Byte) : Nat :=
  (List.range 8).countP v.getLsbD

/-- `zsp(v)` (R110): Z, S and P from an 8-bit value; CY and AC stay. -/
def zsp (v : Byte) (f : Flags) : Flags :=
  { f with z := decide (v = 0), s := v.getLsbD 7, p := decide (popcount v % 2 = 0) }

/-- What `add8` and `sub8` return (R11). -/
structure AluResult where
  result : Byte
  carry  : Bool
  aux    : Bool
  deriving DecidableEq, Repr

/-- `add8(a, b, c)` (R111): aux is the carry out of bit 3. -/
def add8 (a b : Byte) (c : Bool) : AluResult :=
  let t := a.toNat + b.toNat + c.toNat
  { result := BitVec.ofNat 8 t
    carry  := decide (t > 0xFF)
    aux    := decide ((a &&& 0x0F#8).toNat + (b &&& 0x0F#8).toNat + c.toNat > 0x0F) }

/-- `sub8(a, b, c)` (R112): carry is the borrow, aux the carry out of bit 3 of `a + ~b + (1 - c)`. -/
def sub8 (a b : Byte) (c : Bool) : AluResult :=
  let t := (a.toNat + 0x10000 - b.toNat - c.toNat) % 0x10000
  { result := BitVec.ofNat 8 t
    carry  := decide (t > 0xFF)
    aux    := decide ((a &&& 0x0F#8).toNat + (~~~b &&& 0x0F#8).toNat + (1 - c.toNat) > 0x0F) }

/-- What `add16` returns (R116). -/
structure Add16Result where
  result : Word
  carry  : Bool
  deriving DecidableEq, Repr

/-- `add16(a, b)` (R116). -/
def add16 (a b : Word) : Add16Result :=
  let t := a.toNat + b.toNat
  { result := BitVec.ofNat 16 t, carry := decide (t > 0xFFFF) }

/-- The arithmetic policy (R114): all five flags from an `add8` or `sub8` result. -/
def arithFlags (r : AluResult) (f : Flags) : Flags :=
  { zsp r.result f with cy := r.carry, ac := r.aux }

/-- The logic policy (R113): Z, S, P from the result, CY and AC cleared. -/
def logicFlags (v : Byte) (f : Flags) : Flags :=
  { zsp v f with cy := false, ac := false }

/-- The auxiliary carry of ANA and ANI (R113, `ANA_AC`). -/
def anaAux (m : AnaAC) (a v : Byte) : Bool :=
  match m with
  | .clear => false
  | .intel => (a ||| v).getLsbD 3

/-- The flags after ANA and ANI of accumulator `a` and operand `v` (R113). -/
def anaFlags (m : AnaAC) (a v : Byte) (f : Flags) : Flags :=
  { logicFlags (a &&& v) f with ac := anaAux m a v }

/-- The inc/dec policy after INR of `old` (R115); CY stays. -/
def inrFlags (old : Byte) (f : Flags) : Flags :=
  { zsp (old + 1) f with ac := decide (old &&& 0x0F#8 = 0x0F#8) }

/-- The inc/dec policy after DCR of `old` (R115); CY stays. -/
def dcrFlags (old : Byte) (f : Flags) : Flags :=
  { zsp (old - 1) f with ac := decide (old &&& 0x0F#8 ≠ 0) }

/-- `pack(flags)` (R27): `{PSW_PAD, AC, CY, P, S, Z}`. -/
def pack (pad : BitVec 3) (f : Flags) : Byte :=
  pad ++ BitVec.ofBool f.ac ++ BitVec.ofBool f.cy ++ BitVec.ofBool f.p ++ BitVec.ofBool f.s
    ++ BitVec.ofBool f.z

/-- `unpack(b)` (R27): bits 7:5 are ignored. -/
def unpack (b : Byte) : Flags where
  z  := b.getLsbD 0
  s  := b.getLsbD 1
  p  := b.getLsbD 2
  cy := b.getLsbD 3
  ac := b.getLsbD 4

/-- The eight conditions (R83). -/
inductive Cond where
  | nz | z | nc | c | po | pe | p | m
  deriving DecidableEq, Repr

/-- `cond(CCC)` (R118). -/
def Cond.holds (f : Flags) : Cond → Bool
  | .nz => !f.z
  | .z  => f.z
  | .nc => !f.cy
  | .c  => f.cy
  | .po => !f.p
  | .pe => f.p
  | .p  => !f.s
  | .m  => f.s

/-- The code of a condition in an opcode's bits 5:3 (R83). -/
def Cond.code : Cond → BitVec 3
  | .nz => 0b000
  | .z  => 0b001
  | .nc => 0b010
  | .c  => 0b011
  | .po => 0b100
  | .pe => 0b101
  | .p  => 0b110
  | .m  => 0b111

end Sys2Proof.Machine
end

