-- ==== Sys2Proof/Machine/Ops.lean ====
section
/-! DEFINITION. The named operations over memory, registers and the program counter that every meaning is
written with (00_scope R10), and the shared entries: a vector (interrupts and RST), the return, the
unimplemented outcome and the halt. -/

namespace Sys2Proof.Machine

/-! ### Memory (20_memory) -/

/-- What an address nothing is listed for reads as: memory is zero-filled at reset (R37). -/
def Memory.unlisted : Byte := 0

/-- The byte at address `a`. -/
def Memory.read (m : Memory) (a : Nat) : Byte :=
  match m with
  | [] => Memory.unlisted
  | (k, v) :: rest => if k = a then v else Memory.read rest a

/-- `m` with `v` listed at `a`, in rising order of addresses. -/
def Memory.insert (m : Memory) (a : Nat) (v : Byte) : Memory :=
  match m with
  | [] => [(a, v)]
  | (k, x) :: rest =>
    if k < a then (k, x) :: Memory.insert rest a v
    else if k = a then (a, v) :: rest
    else (a, v) :: (k, x) :: rest

/-- `m` with `v` stored at `a`; the byte an unlisted address reads as is not listed. -/
def Memory.write (m : Memory) (a : Nat) (v : Byte) : Memory :=
  if v = Memory.unlisted then m.filter (fun cell => cell.1 != a) else Memory.insert m a v

/-- The canonical form from address `lo` on: rising addresses inside the 64 KiB, no unlisted byte listed. -/
def Memory.wfFrom (m : Memory) (lo : Nat) : Bool :=
  match m with
  | [] => true
  | (k, v) :: rest =>
    decide (lo ≤ k) && decide (k < 65536) && decide (v ≠ Memory.unlisted) && Memory.wfFrom rest (k + 1)

/-- The canonical form of memory. -/
def Memory.wf (m : Memory) : Bool := Memory.wfFrom m 0

/-- `MemRead(addr, 1)` (R10): the address is already modulo 65536. -/
def State.readMem (s : State) (a : Word) : Byte := Memory.read s.mem a.toNat

/-- `MemWrite(addr, 1, v)` (R10): every address is writable (R51). -/
def State.writeMem (s : State) (a : Word) (v : Byte) : State :=
  { s with mem := Memory.write s.mem a.toNat v }

/-- `MemRead(addr, 2)` (R10): low byte at `a`, high byte at `a + 1` modulo 65536 (R53, R55). -/
def State.readMem16 (s : State) (a : Word) : Word := s.readMem (a + 1) ++ s.readMem a

/-- `MemWrite(addr, 2, v)` (R10): the low byte at `a`, then the high byte at `a + 1` modulo 65536. -/
def State.writeMem16 (s : State) (a : Word) (v : Word) : State :=
  (s.writeMem a (v.extractLsb' 0 8)).writeMem (a + 1) (v.extractLsb' 8 8)

/-- `bytes` stored from `a` on, modulo 65536 (R55). -/
def State.writeBytes (s : State) (a : Word) (bytes : List Byte) : State :=
  match bytes with
  | [] => s
  | v :: rest => State.writeBytes (s.writeMem a v) (a + 1) rest

/-! ### Registers and pairs (10_state) -/

/-- The seven general registers by name (R20). -/
inductive Reg where
  | b | c | d | e | h | l | a
  deriving DecidableEq, Repr

/-- The code of a register in a DDD or SSS field (R81); 110 is the operand M's. -/
def Reg.code : Reg → BitVec 3
  | .b => 0b000
  | .c => 0b001
  | .d => 0b010
  | .e => 0b011
  | .h => 0b100
  | .l => 0b101
  | .a => 0b111

def Regs.get (g : Regs) : Reg → Byte
  | .b => g.b
  | .c => g.c
  | .d => g.d
  | .e => g.e
  | .h => g.h
  | .l => g.l
  | .a => g.a

def Regs.set (g : Regs) (r : Reg) (v : Byte) : Regs :=
  match r with
  | .b => { g with b := v }
  | .c => { g with c := v }
  | .d => { g with d := v }
  | .e => { g with e := v }
  | .h => { g with h := v }
  | .l => { g with l := v }
  | .a => { g with a := v }

/-- `x[r]` (R10). -/
def State.reg (s : State) (r : Reg) : Byte := s.regs.get r

/-- `x[r] <- v` (R10). -/
def State.setReg (s : State) (r : Reg) (v : Byte) : State := { s with regs := s.regs.set r v }

/-- The register pairs of the field RP (R82), SP among them; PSW has meanings of its own. -/
inductive Pair where
  | bc | de | hl | sp
  deriving DecidableEq, Repr

/-- The code of a pair in the field RP (R82). -/
def Pair.code : Pair → BitVec 2
  | .bc => 0b00
  | .de => 0b01
  | .hl => 0b10
  | .sp => 0b11

/-- `rp[p]` (R10, R23): high register first. -/
def State.pair (s : State) : Pair → Word
  | .bc => s.regs.b ++ s.regs.c
  | .de => s.regs.d ++ s.regs.e
  | .hl => s.regs.h ++ s.regs.l
  | .sp => s.sp

/-- `rp[p] <- v` (R10, R23). -/
def State.setPair (s : State) (p : Pair) (v : Word) : State :=
  match p with
  | .bc => { s with regs := { s.regs with b := v.extractLsb' 8 8, c := v.extractLsb' 0 8 } }
  | .de => { s with regs := { s.regs with d := v.extractLsb' 8 8, e := v.extractLsb' 0 8 } }
  | .hl => { s with regs := { s.regs with h := v.extractLsb' 8 8, l := v.extractLsb' 0 8 } }
  | .sp => { s with sp := v }

/-- `s` with the flags `f`. -/
def State.setFlags (s : State) (f : Flags) : State := { s with flags := f }

/-- `CY <- c`, the other flags as they were. -/
def State.setCy (s : State) (c : Bool) : State := { s with flags := { s.flags with cy := c } }

/-- `sp <- v`. -/
def State.setSp (s : State) (v : Word) : State := { s with sp := v }

/-- `pc <- v` (R10). -/
def State.setPc (s : State) (v : Word) : State := { s with pc := v }

/-- The pc past the `n` bytes an instruction consumes, modulo 65536 (R101, R103). -/
def State.advance (s : State) (n : Nat) : State := { s with pc := s.pc + BitVec.ofNat 16 n }

/-! ### The stack (R10) -/

/-- `push16(v)`: the high byte at `sp - 1`, then the low byte at `sp - 2`, modulo 65536. -/
def State.push16 (s : State) (v : Word) : State :=
  let s := (s.setSp (s.sp - 1)).writeMem (s.sp - 1) (v.extractLsb' 8 8)
  (s.setSp (s.sp - 1)).writeMem (s.sp - 1) (v.extractLsb' 0 8)

/-- The value `pop16()` returns: the low byte at `sp`, the high byte at `sp + 1`. -/
def State.popped (s : State) : Word := s.readMem16 s.sp

/-- The state `pop16()` leaves: sp two higher, modulo 65536. -/
def State.popSp (s : State) : State := s.setSp (s.sp + 2)

/-! ### Entries, the return, the two signals -/

/-- The vector address of index `n` (R60, R84): `8 * n`. -/
def vectorAddr (n : BitVec 3) : Word := n.zeroExtend 16 * 8

/-- THE ENTRY both an accepted interrupt (R342) and RST n (R276) make: push the pc, go to `8 * n`. It saves
the pc only: there is no saved status and no cause register (60_exceptions, opening). -/
def State.enterVector (s : State) (n : BitVec 3) : State :=
  (s.push16 s.pc).setPc (vectorAddr n)

/-- The return (R274, R347): `pc <- pop16()`. It restores no flag and leaves IE. -/
def State.returnPop (s : State) : State := s.popSp.setPc s.popped

/-- `raise Unimplemented(addr, opcode)` at the opcode's address `s.pc` (R330): the pc past the byte, the
fault recorded if none was, nothing else. -/
def State.raiseUnimplemented (s : State) (opcode : Byte) : State :=
  { s.advance 1 with
    fault := match s.fault with
      | none => some { addr := s.pc, opcode := opcode }
      | some f => some f }

/-- `halted <- 1; signal Halt` (R131). -/
def State.signalHalt (s : State) : State := { s with halted := true }

/-! ### When a state no longer runs -/

/-- A fault is recorded and `UNIMPL_POLICY = Fatal` (R331). -/
def State.faulted (s : State) : Bool := s.fault.isSome && decide (s.cfg.unimplPolicy = .fatal)

/-- A step of such a state changes nothing (R106): halted, or faulted under `Fatal`. -/
def State.stopped (s : State) : Bool := s.halted || s.faulted

/-- Halted under `HALT_POLICY = Terminal` (R333, R341). -/
def State.final (s : State) : Bool := s.halted && decide (s.cfg.haltPolicy = .terminal)

end Sys2Proof.Machine
end

