-- ==== Sys2Proof/Machine/Operands.lean ====
section
/-! DEFINITION. The operand forms: the register-or-M operand of a DDD or SSS field (30_encoding R81, R92) and
the three forms of an ALU operand (44_arith_logic, opening). -/

namespace Sys2Proof.Machine

/-- What a DDD or SSS field names: a register, or the memory byte at HL (code 110, R81). -/
inductive Loc where
  | reg (r : Reg)
  | m
  deriving DecidableEq, Repr

/-- The code of a DDD or SSS field (R81). -/
def Loc.code : Loc → BitVec 3
  | .reg r => r.code
  | .m => 0b110

/-- The value of the operand; M is read at the address in HL (R92). -/
def State.readLoc (s : State) : Loc → Byte
  | .reg r => s.reg r
  | .m => s.readMem (s.pair .hl)

/-- `s` with `v` in the operand; M is written at the address in HL (R92). -/
def State.writeLoc (s : State) (o : Loc) (v : Byte) : State :=
  match o with
  | .reg r => s.setReg r v
  | .m => s.writeMem (s.pair .hl) v

/-- An ALU operand: `op r` and `op M`, or `opI d8`. -/
inductive Src where
  | loc (o : Loc)
  | imm (v : Byte)
  deriving DecidableEq, Repr

/-- The value of an ALU operand. -/
def State.readSrc (s : State) : Src → Byte
  | .loc o => s.readLoc o
  | .imm v => v

/-- How many bytes an ALU instruction with this operand has (R86). -/
def Src.length : Src → Nat
  | .loc _ => 1
  | .imm _ => 2

end Sys2Proof.Machine
end

