-- ==== Sys2Proof/Machine/ArithLogic.lean ====
section
/-! DEFINITION. Arithmetic and logic (44_arith_logic). -/

namespace Sys2Proof.Machine

/-- `A <- res` and the arithmetic policy's flags (R114). -/
def State.setArith (s : State) (r : AluResult) : State :=
  (s.setReg .a r.result).setFlags (arithFlags r s.flags)

/-- `A <- v` and the logic policy's flags (R113). -/
def State.setLogic (s : State) (v : Byte) : State :=
  (s.setReg .a v).setFlags (logicFlags v s.flags)

/-- ADD, ADI (R180, R181, R182). -/
def doAdd (src : Src) (s : State) : Result :=
  let s := s.advance src.length
  .next (s.setArith (add8 (s.reg .a) (s.readSrc src) false))

/-- ADC, ACI (R183, R184, R185). -/
def doAdc (src : Src) (s : State) : Result :=
  let s := s.advance src.length
  .next (s.setArith (add8 (s.reg .a) (s.readSrc src) s.flags.cy))

/-- SUB, SUI (R186, R187, R188). -/
def doSub (src : Src) (s : State) : Result :=
  let s := s.advance src.length
  .next (s.setArith (sub8 (s.reg .a) (s.readSrc src) false))

/-- SBB, SBI (R189, R190, R191). -/
def doSbb (src : Src) (s : State) : Result :=
  let s := s.advance src.length
  .next (s.setArith (sub8 (s.reg .a) (s.readSrc src) s.flags.cy))

/-- ANA, ANI (R192, R193, R194): AC by the parameter `ANA_AC`. -/
def doAna (src : Src) (s : State) : Result :=
  let s := s.advance src.length
  let a := s.reg .a
  let v := s.readSrc src
  .next ((s.setReg .a (a &&& v)).setFlags (anaFlags s.cfg.anaAC a v s.flags))

/-- XRA, XRI (R195, R196, R197). -/
def doXra (src : Src) (s : State) : Result :=
  let s := s.advance src.length
  .next (s.setLogic (s.reg .a ^^^ s.readSrc src))

/-- ORA, ORI (R198, R199, R200). -/
def doOra (src : Src) (s : State) : Result :=
  let s := s.advance src.length
  .next (s.setLogic (s.reg .a ||| s.readSrc src))

/-- CMP, CPI (R201, R202, R203): SUB's flags; A is not written. -/
def doCmp (src : Src) (s : State) : Result :=
  let s := s.advance src.length
  .next (s.setFlags (arithFlags (sub8 (s.reg .a) (s.readSrc src) false) s.flags))

/-- DAD (R204): CY only. -/
def doDad (p : Pair) (s : State) : Result :=
  let s := s.advance 1
  let r := add16 (s.pair .hl) (s.pair p)
  .next ((s.setPair .hl r.result).setCy r.carry)

/-- CMA (R205): no flag. -/
def doCma (s : State) : Result :=
  let s := s.advance 1
  .next (s.setReg .a (~~~(s.reg .a)))

/-- STC (R206). -/
def doStc (s : State) : Result := .next ((s.advance 1).setCy true)

/-- CMC (R207). -/
def doCmc (s : State) : Result :=
  let s := s.advance 1
  .next (s.setCy (!s.flags.cy))

/-- 0x09 DAD B (R204). -/
def execDadB (s : State) : Result := doDad .bc s

/-- 0x19 DAD D (R204). -/
def execDadD (s : State) : Result := doDad .de s

/-- 0x29 DAD H (R204). -/
def execDadH (s : State) : Result := doDad .hl s

/-- 0x2F CMA (R205). -/
def execCma (s : State) : Result := doCma s

/-- 0x37 STC (R206). -/
def execStc (s : State) : Result := doStc s

/-- 0x39 DAD SP (R204). -/
def execDadSp (s : State) : Result := doDad .sp s

/-- 0x3F CMC (R207). -/
def execCmc (s : State) : Result := doCmc s

/-- 0x80 ADD B (R180). -/
def execAddB (s : State) : Result := doAdd (.loc (.reg .b)) s

/-- 0x81 ADD C (R180). -/
def execAddC (s : State) : Result := doAdd (.loc (.reg .c)) s

/-- 0x82 ADD D (R180). -/
def execAddD (s : State) : Result := doAdd (.loc (.reg .d)) s

/-- 0x83 ADD E (R180). -/
def execAddE (s : State) : Result := doAdd (.loc (.reg .e)) s

/-- 0x84 ADD H (R180). -/
def execAddH (s : State) : Result := doAdd (.loc (.reg .h)) s

/-- 0x85 ADD L (R180). -/
def execAddL (s : State) : Result := doAdd (.loc (.reg .l)) s

/-- 0x86 ADD M (R181). -/
def execAddM (s : State) : Result := doAdd (.loc .m) s

/-- 0x87 ADD A (R180). -/
def execAddA (s : State) : Result := doAdd (.loc (.reg .a)) s

/-- 0x88 ADC B (R183). -/
def execAdcB (s : State) : Result := doAdc (.loc (.reg .b)) s

/-- 0x89 ADC C (R183). -/
def execAdcC (s : State) : Result := doAdc (.loc (.reg .c)) s

/-- 0x8A ADC D (R183). -/
def execAdcD (s : State) : Result := doAdc (.loc (.reg .d)) s

/-- 0x8B ADC E (R183). -/
def execAdcE (s : State) : Result := doAdc (.loc (.reg .e)) s

/-- 0x8C ADC H (R183). -/
def execAdcH (s : State) : Result := doAdc (.loc (.reg .h)) s

/-- 0x8D ADC L (R183). -/
def execAdcL (s : State) : Result := doAdc (.loc (.reg .l)) s

/-- 0x8E ADC M (R184). -/
def execAdcM (s : State) : Result := doAdc (.loc .m) s

/-- 0x8F ADC A (R183). -/
def execAdcA (s : State) : Result := doAdc (.loc (.reg .a)) s

/-- 0x90 SUB B (R186). -/
def execSubB (s : State) : Result := doSub (.loc (.reg .b)) s

/-- 0x91 SUB C (R186). -/
def execSubC (s : State) : Result := doSub (.loc (.reg .c)) s

/-- 0x92 SUB D (R186). -/
def execSubD (s : State) : Result := doSub (.loc (.reg .d)) s

/-- 0x93 SUB E (R186). -/
def execSubE (s : State) : Result := doSub (.loc (.reg .e)) s

/-- 0x94 SUB H (R186). -/
def execSubH (s : State) : Result := doSub (.loc (.reg .h)) s

/-- 0x95 SUB L (R186). -/
def execSubL (s : State) : Result := doSub (.loc (.reg .l)) s

/-- 0x96 SUB M (R187). -/
def execSubM (s : State) : Result := doSub (.loc .m) s

/-- 0x97 SUB A (R186). -/
def execSubA (s : State) : Result := doSub (.loc (.reg .a)) s

/-- 0x98 SBB B (R189). -/
def execSbbB (s : State) : Result := doSbb (.loc (.reg .b)) s

/-- 0x99 SBB C (R189). -/
def execSbbC (s : State) : Result := doSbb (.loc (.reg .c)) s

/-- 0x9A SBB D (R189). -/
def execSbbD (s : State) : Result := doSbb (.loc (.reg .d)) s

/-- 0x9B SBB E (R189). -/
def execSbbE (s : State) : Result := doSbb (.loc (.reg .e)) s

/-- 0x9C SBB H (R189). -/
def execSbbH (s : State) : Result := doSbb (.loc (.reg .h)) s

/-- 0x9D SBB L (R189). -/
def execSbbL (s : State) : Result := doSbb (.loc (.reg .l)) s

/-- 0x9E SBB M (R190). -/
def execSbbM (s : State) : Result := doSbb (.loc .m) s

/-- 0x9F SBB A (R189). -/
def execSbbA (s : State) : Result := doSbb (.loc (.reg .a)) s

/-- 0xA0 ANA B (R192). -/
def execAnaB (s : State) : Result := doAna (.loc (.reg .b)) s

/-- 0xA1 ANA C (R192). -/
def execAnaC (s : State) : Result := doAna (.loc (.reg .c)) s

/-- 0xA2 ANA D (R192). -/
def execAnaD (s : State) : Result := doAna (.loc (.reg .d)) s

/-- 0xA3 ANA E (R192). -/
def execAnaE (s : State) : Result := doAna (.loc (.reg .e)) s

/-- 0xA4 ANA H (R192). -/
def execAnaH (s : State) : Result := doAna (.loc (.reg .h)) s

/-- 0xA5 ANA L (R192). -/
def execAnaL (s : State) : Result := doAna (.loc (.reg .l)) s

/-- 0xA6 ANA M (R193). -/
def execAnaM (s : State) : Result := doAna (.loc .m) s

/-- 0xA7 ANA A (R192). -/
def execAnaA (s : State) : Result := doAna (.loc (.reg .a)) s

/-- 0xA8 XRA B (R195). -/
def execXraB (s : State) : Result := doXra (.loc (.reg .b)) s

/-- 0xA9 XRA C (R195). -/
def execXraC (s : State) : Result := doXra (.loc (.reg .c)) s

/-- 0xAA XRA D (R195). -/
def execXraD (s : State) : Result := doXra (.loc (.reg .d)) s

/-- 0xAB XRA E (R195). -/
def execXraE (s : State) : Result := doXra (.loc (.reg .e)) s

/-- 0xAC XRA H (R195). -/
def execXraH (s : State) : Result := doXra (.loc (.reg .h)) s

/-- 0xAD XRA L (R195). -/
def execXraL (s : State) : Result := doXra (.loc (.reg .l)) s

/-- 0xAE XRA M (R196). -/
def execXraM (s : State) : Result := doXra (.loc .m) s

/-- 0xAF XRA A (R195). -/
def execXraA (s : State) : Result := doXra (.loc (.reg .a)) s

/-- 0xB0 ORA B (R198). -/
def execOraB (s : State) : Result := doOra (.loc (.reg .b)) s

/-- 0xB1 ORA C (R198). -/
def execOraC (s : State) : Result := doOra (.loc (.reg .c)) s

/-- 0xB2 ORA D (R198). -/
def execOraD (s : State) : Result := doOra (.loc (.reg .d)) s

/-- 0xB3 ORA E (R198). -/
def execOraE (s : State) : Result := doOra (.loc (.reg .e)) s

/-- 0xB4 ORA H (R198). -/
def execOraH (s : State) : Result := doOra (.loc (.reg .h)) s

/-- 0xB5 ORA L (R198). -/
def execOraL (s : State) : Result := doOra (.loc (.reg .l)) s

/-- 0xB6 ORA M (R199). -/
def execOraM (s : State) : Result := doOra (.loc .m) s

/-- 0xB7 ORA A (R198). -/
def execOraA (s : State) : Result := doOra (.loc (.reg .a)) s

/-- 0xB8 CMP B (R201). -/
def execCmpB (s : State) : Result := doCmp (.loc (.reg .b)) s

/-- 0xB9 CMP C (R201). -/
def execCmpC (s : State) : Result := doCmp (.loc (.reg .c)) s

/-- 0xBA CMP D (R201). -/
def execCmpD (s : State) : Result := doCmp (.loc (.reg .d)) s

/-- 0xBB CMP E (R201). -/
def execCmpE (s : State) : Result := doCmp (.loc (.reg .e)) s

/-- 0xBC CMP H (R201). -/
def execCmpH (s : State) : Result := doCmp (.loc (.reg .h)) s

/-- 0xBD CMP L (R201). -/
def execCmpL (s : State) : Result := doCmp (.loc (.reg .l)) s

/-- 0xBE CMP M (R202). -/
def execCmpM (s : State) : Result := doCmp (.loc .m) s

/-- 0xBF CMP A (R201). -/
def execCmpA (s : State) : Result := doCmp (.loc (.reg .a)) s

/-- 0xC6 ADI d8 (R182). -/
def execAdi (d8 : Byte) (s : State) : Result := doAdd (.imm d8) s

/-- 0xCE ACI d8 (R185). -/
def execAci (d8 : Byte) (s : State) : Result := doAdc (.imm d8) s

/-- 0xD6 SUI d8 (R188). -/
def execSui (d8 : Byte) (s : State) : Result := doSub (.imm d8) s

/-- 0xDE SBI d8 (R191). -/
def execSbi (d8 : Byte) (s : State) : Result := doSbb (.imm d8) s

/-- 0xE6 ANI d8 (R194). -/
def execAni (d8 : Byte) (s : State) : Result := doAna (.imm d8) s

/-- 0xEE XRI d8 (R197). -/
def execXri (d8 : Byte) (s : State) : Result := doXra (.imm d8) s

/-- 0xF6 ORI d8 (R200). -/
def execOri (d8 : Byte) (s : State) : Result := doOra (.imm d8) s

/-- 0xFE CPI d8 (R203). -/
def execCpi (d8 : Byte) (s : State) : Result := doCmp (.imm d8) s

end Sys2Proof.Machine
end

