-- ==== Sys2Proof/Machine/ControlFlow.lean ====
section
/-! DEFINITION. Control flow (47_control_flow). -/

namespace Sys2Proof.Machine

/-- JMP (R270). -/
def doJmp (a : Word) (s : State) : Result := .next ((s.advance 3).setPc a)

/-- Jcc (R271): a false condition only skips the operand (R103). -/
def doJcc (cc : Cond) (a : Word) (s : State) : Result :=
  let s := s.advance 3
  .next (if cc.holds s.flags then s.setPc a else s)

/-- CALL (R272): the pushed value is the pc after the operand. -/
def doCall (a : Word) (s : State) : Result :=
  let s := s.advance 3
  .next ((s.push16 s.pc).setPc a)

/-- Ccc (R273): a false condition only skips the operand (R103). -/
def doCcc (cc : Cond) (a : Word) (s : State) : Result :=
  let s := s.advance 3
  .next (if cc.holds s.flags then (s.push16 s.pc).setPc a else s)

/-- RET (R274). -/
def doRet (s : State) : Result := .next (s.advance 1).returnPop

/-- Rcc (R275). -/
def doRcc (cc : Cond) (s : State) : Result :=
  let s := s.advance 1
  .next (if cc.holds s.flags then s.returnPop else s)

/-- RST n (R276). -/
def doRst (n : BitVec 3) (s : State) : Result := .next ((s.advance 1).enterVector n)

/-- PCHL (R277). -/
def doPchl (s : State) : Result := .next (s.setPc (s.pair .hl))

/-- 0xC0 RNZ (R275). -/
def execRnz (s : State) : Result := doRcc .nz s

/-- 0xC2 JNZ a16 (R271). -/
def execJnz (a16 : Word) (s : State) : Result := doJcc .nz a16 s

/-- 0xC3 JMP a16 (R270). -/
def execJmp (a16 : Word) (s : State) : Result := doJmp a16 s

/-- 0xC4 CNZ a16 (R273). -/
def execCnz (a16 : Word) (s : State) : Result := doCcc .nz a16 s

/-- 0xC7 RST 0 (R276). -/
def execRst0 (s : State) : Result := doRst 0 s

/-- 0xC8 RZ (R275). -/
def execRz (s : State) : Result := doRcc .z s

/-- 0xC9 RET (R274). -/
def execRet (s : State) : Result := doRet s

/-- 0xCA JZ a16 (R271). -/
def execJz (a16 : Word) (s : State) : Result := doJcc .z a16 s

/-- 0xCC CZ a16 (R273). -/
def execCz (a16 : Word) (s : State) : Result := doCcc .z a16 s

/-- 0xCD CALL a16 (R272). -/
def execCall (a16 : Word) (s : State) : Result := doCall a16 s

/-- 0xCF RST 1 (R276). -/
def execRst1 (s : State) : Result := doRst 1 s

/-- 0xD0 RNC (R275). -/
def execRnc (s : State) : Result := doRcc .nc s

/-- 0xD2 JNC a16 (R271). -/
def execJnc (a16 : Word) (s : State) : Result := doJcc .nc a16 s

/-- 0xD4 CNC a16 (R273). -/
def execCnc (a16 : Word) (s : State) : Result := doCcc .nc a16 s

/-- 0xD7 RST 2 (R276). -/
def execRst2 (s : State) : Result := doRst 2 s

/-- 0xD8 RC (R275). -/
def execRc (s : State) : Result := doRcc .c s

/-- 0xDA JC a16 (R271). -/
def execJc (a16 : Word) (s : State) : Result := doJcc .c a16 s

/-- 0xDC CC a16 (R273). -/
def execCc (a16 : Word) (s : State) : Result := doCcc .c a16 s

/-- 0xDF RST 3 (R276). -/
def execRst3 (s : State) : Result := doRst 3 s

/-- 0xE0 RPO (R275). -/
def execRpo (s : State) : Result := doRcc .po s

/-- 0xE2 JPO a16 (R271). -/
def execJpo (a16 : Word) (s : State) : Result := doJcc .po a16 s

/-- 0xE4 CPO a16 (R273). -/
def execCpo (a16 : Word) (s : State) : Result := doCcc .po a16 s

/-- 0xE7 RST 4 (R276). -/
def execRst4 (s : State) : Result := doRst 4 s

/-- 0xE8 RPE (R275). -/
def execRpe (s : State) : Result := doRcc .pe s

/-- 0xE9 PCHL (R277). -/
def execPchl (s : State) : Result := doPchl s

/-- 0xEA JPE a16 (R271). -/
def execJpe (a16 : Word) (s : State) : Result := doJcc .pe a16 s

/-- 0xEC CPE a16 (R273). -/
def execCpe (a16 : Word) (s : State) : Result := doCcc .pe a16 s

/-- 0xEF RST 5 (R276). -/
def execRst5 (s : State) : Result := doRst 5 s

/-- 0xF0 RP (R275). -/
def execRp (s : State) : Result := doRcc .p s

/-- 0xF2 JP a16 (R271). -/
def execJp (a16 : Word) (s : State) : Result := doJcc .p a16 s

/-- 0xF4 CP a16 (R273). -/
def execCp (a16 : Word) (s : State) : Result := doCcc .p a16 s

/-- 0xF7 RST 6 (R276). -/
def execRst6 (s : State) : Result := doRst 6 s

/-- 0xF8 RM (R275). -/
def execRm (s : State) : Result := doRcc .m s

/-- 0xFA JM a16 (R271). -/
def execJm (a16 : Word) (s : State) : Result := doJcc .m a16 s

/-- 0xFC CM a16 (R273). -/
def execCm (a16 : Word) (s : State) : Result := doCcc .m a16 s

/-- 0xFF RST 7 (R276). -/
def execRst7 (s : State) : Result := doRst 7 s

end Sys2Proof.Machine
end

