-- ==== Sys2Proof/Machine/Exchange.lean ====
section
/-! DEFINITION. Exchanges (48_exchange). -/

namespace Sys2Proof.Machine

/-- XCHG (R290). -/
def doXchg (s : State) : Result :=
  let s := s.advance 1
  .next ((s.setPair .hl (s.pair .de)).setPair .de (s.pair .hl))

/-- XTHL (R291): both bytes are read before either is written; sp stays. -/
def doXthl (s : State) : Result :=
  let s := s.advance 1
  .next ((s.writeMem16 s.sp (s.pair .hl)).setPair .hl s.popped)

/-- 0xE3 XTHL (R291). -/
def execXthl (s : State) : Result := doXthl s

/-- 0xEB XCHG (R290). -/
def execXchg (s : State) : Result := doXchg s

end Sys2Proof.Machine
end

