-- ==== Sys2Proof/Machine/IncDec.lean ====
section
/-! DEFINITION. Increment and decrement (43_inc_dec). -/

namespace Sys2Proof.Machine

/-- INR (R170, R171). -/
def doInr (o : Loc) (s : State) : Result :=
  let s := s.advance 1
  let old := s.readLoc o
  .next ((s.writeLoc o (old + 1)).setFlags (inrFlags old s.flags))

/-- DCR (R172, R173). -/
def doDcr (o : Loc) (s : State) : Result :=
  let s := s.advance 1
  let old := s.readLoc o
  .next ((s.writeLoc o (old - 1)).setFlags (dcrFlags old s.flags))

/-- INX (R174): no flag. -/
def doInx (p : Pair) (s : State) : Result :=
  let s := s.advance 1
  .next (s.setPair p (s.pair p + 1))

/-- DCX (R175): no flag. -/
def doDcx (p : Pair) (s : State) : Result :=
  let s := s.advance 1
  .next (s.setPair p (s.pair p - 1))

/-- 0x03 INX B (R174). -/
def execInxB (s : State) : Result := doInx .bc s

/-- 0x04 INR B (R170). -/
def execInrB (s : State) : Result := doInr (.reg .b) s

/-- 0x05 DCR B (R172). -/
def execDcrB (s : State) : Result := doDcr (.reg .b) s

/-- 0x0B DCX B (R175). -/
def execDcxB (s : State) : Result := doDcx .bc s

/-- 0x0C INR C (R170). -/
def execInrC (s : State) : Result := doInr (.reg .c) s

/-- 0x0D DCR C (R172). -/
def execDcrC (s : State) : Result := doDcr (.reg .c) s

/-- 0x13 INX D (R174). -/
def execInxD (s : State) : Result := doInx .de s

/-- 0x14 INR D (R170). -/
def execInrD (s : State) : Result := doInr (.reg .d) s

/-- 0x15 DCR D (R172). -/
def execDcrD (s : State) : Result := doDcr (.reg .d) s

/-- 0x1B DCX D (R175). -/
def execDcxD (s : State) : Result := doDcx .de s

/-- 0x1C INR E (R170). -/
def execInrE (s : State) : Result := doInr (.reg .e) s

/-- 0x1D DCR E (R172). -/
def execDcrE (s : State) : Result := doDcr (.reg .e) s

/-- 0x23 INX H (R174). -/
def execInxH (s : State) : Result := doInx .hl s

/-- 0x24 INR H (R170). -/
def execInrH (s : State) : Result := doInr (.reg .h) s

/-- 0x25 DCR H (R172). -/
def execDcrH (s : State) : Result := doDcr (.reg .h) s

/-- 0x2B DCX H (R175). -/
def execDcxH (s : State) : Result := doDcx .hl s

/-- 0x2C INR L (R170). -/
def execInrL (s : State) : Result := doInr (.reg .l) s

/-- 0x2D DCR L (R172). -/
def execDcrL (s : State) : Result := doDcr (.reg .l) s

/-- 0x33 INX SP (R174). -/
def execInxSp (s : State) : Result := doInx .sp s

/-- 0x34 INR M (R171). -/
def execInrM (s : State) : Result := doInr .m s

/-- 0x35 DCR M (R173). -/
def execDcrM (s : State) : Result := doDcr .m s

/-- 0x3B DCX SP (R175). -/
def execDcxSp (s : State) : Result := doDcx .sp s

/-- 0x3C INR A (R170). -/
def execInrA (s : State) : Result := doInr (.reg .a) s

/-- 0x3D DCR A (R172). -/
def execDcrA (s : State) : Result := doDcr (.reg .a) s

end Sys2Proof.Machine
end

