-- ==== Sys2Proof/Machine/IoInterrupt.lean ====
section
/-! DEFINITION. The port multiplexer, the shift-register peripheral, IN and OUT, and interrupt enable
(49_io_interrupt_enable). -/

namespace Sys2Proof.Machine

/-- The shift result IN 3 reads (R302): `trunc8({shift1, shift0} >> (8 - shift_amount))`. -/
def Ports.shiftResult (p : Ports) : Byte :=
  ((p.shift1 ++ p.shift0) >>> (8 - p.shiftAmount.toNat)).setWidth 8

/-- The port has a peripheral that IN reads (R300). -/
def mappedIn (p : Byte) : Bool := decide (p = 1 ∨ p = 2 ∨ p = 3)

/-- The value `machineIn(p)` returns (R300, R305). -/
def State.machineIn (s : State) (p : Byte) : Byte :=
  if p = 1 then s.ports.in1
  else if p = 2 then s.ports.in2
  else if p = 3 then s.ports.shiftResult
  else Config.unmappedIn p s.draws

/-- The state after `machineIn(p)`: no core state changes (R300); the model counts the host's answers. -/
def State.afterIn (s : State) (p : Byte) : State :=
  if mappedIn p then s else { s with draws := s.draws + 1 }

/-- `machineOut(p, v)` (R303, R304, R306). -/
def State.machineOut (s : State) (p v : Byte) : State :=
  if p = 2 then { s with ports := { s.ports with shiftAmount := v.extractLsb' 0 3 } }
  else if p = 4 then { s with ports := { s.ports with shift0 := s.ports.shift1, shift1 := v } }
  else { s with outLog := s.outLog ++ [{ port := p, value := v }] }

/-- IN p8 (R307). -/
def doIn (p : Byte) (s : State) : Result :=
  let s := s.advance 2
  .next ((s.afterIn p).setReg .a (s.machineIn p))

/-- OUT p8 (R308). -/
def doOut (p : Byte) (s : State) : Result :=
  let s := s.advance 2
  .next (s.machineOut p (s.reg .a))

/-- EI (R309): at once (R379). -/
def doEi (s : State) : Result := .next { s.advance 1 with ie := true }

/-- DI (R310). -/
def doDi (s : State) : Result := .next { s.advance 1 with ie := false }

/-- 0xD3 OUT p8 (R308). -/
def execOutPort (p8 : Byte) (s : State) : Result := doOut p8 s

/-- 0xDB IN p8 (R307). -/
def execInPort (p8 : Byte) (s : State) : Result := doIn p8 s

/-- 0xF3 DI (R310). -/
def execDi (s : State) : Result := doDi s

/-- 0xFB EI (R309). -/
def execEi (s : State) : Result := doEi s

end Sys2Proof.Machine
end

