-- ==== Sys2Proof/Machine/MoveLoad.lean ====
section
/-! DEFINITION. Moves, loads and stores (42_move_load). No instruction here writes a flag. -/

namespace Sys2Proof.Machine

/-- MOV (R140, R141, R142): the operand is read, and the address of M taken, before the write. -/
def doMov (dst src : Loc) (s : State) : Result :=
  let s := s.advance 1
  .next (s.writeLoc dst (s.readLoc src))

/-- MVI (R143, R144). -/
def doMvi (dst : Loc) (v : Byte) (s : State) : Result :=
  .next ((s.advance 2).writeLoc dst v)

/-- LXI (R145). -/
def doLxi (p : Pair) (v : Word) (s : State) : Result :=
  .next ((s.advance 3).setPair p v)

/-- LDA (R146). -/
def doLda (a : Word) (s : State) : Result :=
  let s := s.advance 3
  .next (s.setReg .a (s.readMem a))

/-- STA (R147). -/
def doSta (a : Word) (s : State) : Result :=
  let s := s.advance 3
  .next (s.writeMem a (s.reg .a))

/-- LHLD (R148): L from `a`, H from `a + 1`. -/
def doLhld (a : Word) (s : State) : Result :=
  let s := s.advance 3
  .next ((s.setReg .l (s.readMem a)).setReg .h (s.readMem (a + 1)))

/-- SHLD (R149): L at `a`, H at `a + 1`. -/
def doShld (a : Word) (s : State) : Result :=
  let s := s.advance 3
  .next ((s.writeMem a (s.reg .l)).writeMem (a + 1) (s.reg .h))

/-- LDAX (R150). -/
def doLdax (p : Pair) (s : State) : Result :=
  let s := s.advance 1
  .next (s.setReg .a (s.readMem (s.pair p)))

/-- STAX (R151). -/
def doStax (p : Pair) (s : State) : Result :=
  let s := s.advance 1
  .next (s.writeMem (s.pair p) (s.reg .a))

/-- 0x01 LXI B,d16 (R145). -/
def execLxiB (d16 : Word) (s : State) : Result := doLxi .bc d16 s

/-- 0x02 STAX B (R151). -/
def execStaxB (s : State) : Result := doStax .bc s

/-- 0x06 MVI B,d8 (R143). -/
def execMviB (d8 : Byte) (s : State) : Result := doMvi (.reg .b) d8 s

/-- 0x0A LDAX B (R150). -/
def execLdaxB (s : State) : Result := doLdax .bc s

/-- 0x0E MVI C,d8 (R143). -/
def execMviC (d8 : Byte) (s : State) : Result := doMvi (.reg .c) d8 s

/-- 0x11 LXI D,d16 (R145). -/
def execLxiD (d16 : Word) (s : State) : Result := doLxi .de d16 s

/-- 0x12 STAX D (R151). -/
def execStaxD (s : State) : Result := doStax .de s

/-- 0x16 MVI D,d8 (R143). -/
def execMviD (d8 : Byte) (s : State) : Result := doMvi (.reg .d) d8 s

/-- 0x1A LDAX D (R150). -/
def execLdaxD (s : State) : Result := doLdax .de s

/-- 0x1E MVI E,d8 (R143). -/
def execMviE (d8 : Byte) (s : State) : Result := doMvi (.reg .e) d8 s

/-- 0x21 LXI H,d16 (R145). -/
def execLxiH (d16 : Word) (s : State) : Result := doLxi .hl d16 s

/-- 0x22 SHLD a16 (R149). -/
def execShld (a16 : Word) (s : State) : Result := doShld a16 s

/-- 0x26 MVI H,d8 (R143). -/
def execMviH (d8 : Byte) (s : State) : Result := doMvi (.reg .h) d8 s

/-- 0x2A LHLD a16 (R148). -/
def execLhld (a16 : Word) (s : State) : Result := doLhld a16 s

/-- 0x2E MVI L,d8 (R143). -/
def execMviL (d8 : Byte) (s : State) : Result := doMvi (.reg .l) d8 s

/-- 0x31 LXI SP,d16 (R145). -/
def execLxiSp (d16 : Word) (s : State) : Result := doLxi .sp d16 s

/-- 0x32 STA a16 (R147). -/
def execSta (a16 : Word) (s : State) : Result := doSta a16 s

/-- 0x36 MVI M,d8 (R144). -/
def execMviM (d8 : Byte) (s : State) : Result := doMvi .m d8 s

/-- 0x3A LDA a16 (R146). -/
def execLda (a16 : Word) (s : State) : Result := doLda a16 s

/-- 0x3E MVI A,d8 (R143). -/
def execMviA (d8 : Byte) (s : State) : Result := doMvi (.reg .a) d8 s

/-- 0x40 MOV B,B (R140). -/
def execMovBB (s : State) : Result := doMov (.reg .b) (.reg .b) s

/-- 0x41 MOV B,C (R140). -/
def execMovBC (s : State) : Result := doMov (.reg .b) (.reg .c) s

/-- 0x42 MOV B,D (R140). -/
def execMovBD (s : State) : Result := doMov (.reg .b) (.reg .d) s

/-- 0x43 MOV B,E (R140). -/
def execMovBE (s : State) : Result := doMov (.reg .b) (.reg .e) s

/-- 0x44 MOV B,H (R140). -/
def execMovBH (s : State) : Result := doMov (.reg .b) (.reg .h) s

/-- 0x45 MOV B,L (R140). -/
def execMovBL (s : State) : Result := doMov (.reg .b) (.reg .l) s

/-- 0x46 MOV B,M (R141). -/
def execMovBM (s : State) : Result := doMov (.reg .b) .m s

/-- 0x47 MOV B,A (R140). -/
def execMovBA (s : State) : Result := doMov (.reg .b) (.reg .a) s

/-- 0x48 MOV C,B (R140). -/
def execMovCB (s : State) : Result := doMov (.reg .c) (.reg .b) s

/-- 0x49 MOV C,C (R140). -/
def execMovCC (s : State) : Result := doMov (.reg .c) (.reg .c) s

/-- 0x4A MOV C,D (R140). -/
def execMovCD (s : State) : Result := doMov (.reg .c) (.reg .d) s

/-- 0x4B MOV C,E (R140). -/
def execMovCE (s : State) : Result := doMov (.reg .c) (.reg .e) s

/-- 0x4C MOV C,H (R140). -/
def execMovCH (s : State) : Result := doMov (.reg .c) (.reg .h) s

/-- 0x4D MOV C,L (R140). -/
def execMovCL (s : State) : Result := doMov (.reg .c) (.reg .l) s

/-- 0x4E MOV C,M (R141). -/
def execMovCM (s : State) : Result := doMov (.reg .c) .m s

/-- 0x4F MOV C,A (R140). -/
def execMovCA (s : State) : Result := doMov (.reg .c) (.reg .a) s

/-- 0x50 MOV D,B (R140). -/
def execMovDB (s : State) : Result := doMov (.reg .d) (.reg .b) s

/-- 0x51 MOV D,C (R140). -/
def execMovDC (s : State) : Result := doMov (.reg .d) (.reg .c) s

/-- 0x52 MOV D,D (R140). -/
def execMovDD (s : State) : Result := doMov (.reg .d) (.reg .d) s

/-- 0x53 MOV D,E (R140). -/
def execMovDE (s : State) : Result := doMov (.reg .d) (.reg .e) s

/-- 0x54 MOV D,H (R140). -/
def execMovDH (s : State) : Result := doMov (.reg .d) (.reg .h) s

/-- 0x55 MOV D,L (R140). -/
def execMovDL (s : State) : Result := doMov (.reg .d) (.reg .l) s

/-- 0x56 MOV D,M (R141). -/
def execMovDM (s : State) : Result := doMov (.reg .d) .m s

/-- 0x57 MOV D,A (R140). -/
def execMovDA (s : State) : Result := doMov (.reg .d) (.reg .a) s

/-- 0x58 MOV E,B (R140). -/
def execMovEB (s : State) : Result := doMov (.reg .e) (.reg .b) s

/-- 0x59 MOV E,C (R140). -/
def execMovEC (s : State) : Result := doMov (.reg .e) (.reg .c) s

/-- 0x5A MOV E,D (R140). -/
def execMovED (s : State) : Result := doMov (.reg .e) (.reg .d) s

/-- 0x5B MOV E,E (R140). -/
def execMovEE (s : State) : Result := doMov (.reg .e) (.reg .e) s

/-- 0x5C MOV E,H (R140). -/
def execMovEH (s : State) : Result := doMov (.reg .e) (.reg .h) s

/-- 0x5D MOV E,L (R140). -/
def execMovEL (s : State) : Result := doMov (.reg .e) (.reg .l) s

/-- 0x5E MOV E,M (R141). -/
def execMovEM (s : State) : Result := doMov (.reg .e) .m s

/-- 0x5F MOV E,A (R140). -/
def execMovEA (s : State) : Result := doMov (.reg .e) (.reg .a) s

/-- 0x60 MOV H,B (R140). -/
def execMovHB (s : State) : Result := doMov (.reg .h) (.reg .b) s

/-- 0x61 MOV H,C (R140). -/
def execMovHC (s : State) : Result := doMov (.reg .h) (.reg .c) s

/-- 0x62 MOV H,D (R140). -/
def execMovHD (s : State) : Result := doMov (.reg .h) (.reg .d) s

/-- 0x63 MOV H,E (R140). -/
def execMovHE (s : State) : Result := doMov (.reg .h) (.reg .e) s

/-- 0x64 MOV H,H (R140). -/
def execMovHH (s : State) : Result := doMov (.reg .h) (.reg .h) s

/-- 0x65 MOV H,L (R140). -/
def execMovHL (s : State) : Result := doMov (.reg .h) (.reg .l) s

/-- 0x66 MOV H,M (R141). -/
def execMovHM (s : State) : Result := doMov (.reg .h) .m s

/-- 0x67 MOV H,A (R140). -/
def execMovHA (s : State) : Result := doMov (.reg .h) (.reg .a) s

/-- 0x68 MOV L,B (R140). -/
def execMovLB (s : State) : Result := doMov (.reg .l) (.reg .b) s

/-- 0x69 MOV L,C (R140). -/
def execMovLC (s : State) : Result := doMov (.reg .l) (.reg .c) s

/-- 0x6A MOV L,D (R140). -/
def execMovLD (s : State) : Result := doMov (.reg .l) (.reg .d) s

/-- 0x6B MOV L,E (R140). -/
def execMovLE (s : State) : Result := doMov (.reg .l) (.reg .e) s

/-- 0x6C MOV L,H (R140). -/
def execMovLH (s : State) : Result := doMov (.reg .l) (.reg .h) s

/-- 0x6D MOV L,L (R140). -/
def execMovLL (s : State) : Result := doMov (.reg .l) (.reg .l) s

/-- 0x6E MOV L,M (R141). -/
def execMovLM (s : State) : Result := doMov (.reg .l) .m s

/-- 0x6F MOV L,A (R140). -/
def execMovLA (s : State) : Result := doMov (.reg .l) (.reg .a) s

/-- 0x70 MOV M,B (R142). -/
def execMovMB (s : State) : Result := doMov .m (.reg .b) s

/-- 0x71 MOV M,C (R142). -/
def execMovMC (s : State) : Result := doMov .m (.reg .c) s

/-- 0x72 MOV M,D (R142). -/
def execMovMD (s : State) : Result := doMov .m (.reg .d) s

/-- 0x73 MOV M,E (R142). -/
def execMovME (s : State) : Result := doMov .m (.reg .e) s

/-- 0x74 MOV M,H (R142). -/
def execMovMH (s : State) : Result := doMov .m (.reg .h) s

/-- 0x75 MOV M,L (R142). -/
def execMovML (s : State) : Result := doMov .m (.reg .l) s

/-- 0x77 MOV M,A (R142). -/
def execMovMA (s : State) : Result := doMov .m (.reg .a) s

/-- 0x78 MOV A,B (R140). -/
def execMovAB (s : State) : Result := doMov (.reg .a) (.reg .b) s

/-- 0x79 MOV A,C (R140). -/
def execMovAC (s : State) : Result := doMov (.reg .a) (.reg .c) s

/-- 0x7A MOV A,D (R140). -/
def execMovAD (s : State) : Result := doMov (.reg .a) (.reg .d) s

/-- 0x7B MOV A,E (R140). -/
def execMovAE (s : State) : Result := doMov (.reg .a) (.reg .e) s

/-- 0x7C MOV A,H (R140). -/
def execMovAH (s : State) : Result := doMov (.reg .a) (.reg .h) s

/-- 0x7D MOV A,L (R140). -/
def execMovAL (s : State) : Result := doMov (.reg .a) (.reg .l) s

/-- 0x7E MOV A,M (R141). -/
def execMovAM (s : State) : Result := doMov (.reg .a) .m s

/-- 0x7F MOV A,A (R140). -/
def execMovAA (s : State) : Result := doMov (.reg .a) (.reg .a) s

end Sys2Proof.Machine
end

