-- ==== Sys2Proof/Machine/NopHalt.lean ====
section
/-! DEFINITION. No-op and halt (41_nop_halt). -/

namespace Sys2Proof.Machine

/-- NOP (R130). -/
def doNop (s : State) : Result := .next (s.advance 1)

/-- HLT (R131): pc is left at the byte after it. -/
def doHalt (s : State) : Result := .next (s.advance 1).signalHalt

/-- 0x00 NOP (R130). -/
def execNop (s : State) : Result := doNop s

/-- 0x76 HLT (R131). -/
def execHlt (s : State) : Result := doHalt s

end Sys2Proof.Machine
end

