-- ==== Sys2Proof/Machine/RotateDaa.lean ====
section
/-! DEFINITION. Rotates and decimal adjust (45_rotate_daa). -/

namespace Sys2Proof.Machine

/-- A carry bit as the byte whose bit 0 it is. -/
def carryByte (c : Bool) : Byte := BitVec.ofNat 8 c.toNat

/-- RLC (R230). -/
def doRlc (s : State) : Result :=
  let s := s.advance 1
  let a := s.reg .a
  let b7 := a.getLsbD 7
  .next ((s.setReg .a ((a <<< 1) ||| carryByte b7)).setCy b7)

/-- RRC (R231). -/
def doRrc (s : State) : Result :=
  let s := s.advance 1
  let a := s.reg .a
  let b0 := a.getLsbD 0
  .next ((s.setReg .a ((a >>> 1) ||| (carryByte b0 <<< 7))).setCy b0)

/-- RAL (R232): through CY. -/
def doRal (s : State) : Result :=
  let s := s.advance 1
  let a := s.reg .a
  .next ((s.setReg .a ((a <<< 1) ||| carryByte s.flags.cy)).setCy (a.getLsbD 7))

/-- RAR (R233): through CY. -/
def doRar (s : State) : Result :=
  let s := s.advance 1
  let a := s.reg .a
  .next ((s.setReg .a ((a >>> 1) ||| (carryByte s.flags.cy <<< 7))).setCy (a.getLsbD 0))

/-- The low correction of DAA applies (R240). -/
def daaLow (a : Byte) (f : Flags) : Bool :=
  decide (a.toNat % 16 > 9) || f.ac

/-- The high correction of DAA applies (R240). -/
def daaHigh (a : Byte) (f : Flags) : Bool :=
  let lo := a.toNat % 16
  let hi := a.toNat / 16
  decide (hi > 9) || f.cy || (decide (hi ≥ 9) && decide (lo > 9))

/-- The one combined correction of DAA (R240). -/
def daaCorr (a : Byte) (f : Flags) : Byte :=
  (if daaLow a f then 0x06#8 else 0x00#8) ||| (if daaHigh a f then 0x60#8 else 0x00#8)

/-- DAA (R240): CY is set by the high correction and kept otherwise. -/
def doDaa (s : State) : Result :=
  let s := s.advance 1
  let a := s.reg .a
  let r := add8 a (daaCorr a s.flags) false
  .next (s.setArith { r with carry := daaHigh a s.flags || s.flags.cy })

/-- 0x07 RLC (R230). -/
def execRlc (s : State) : Result := doRlc s

/-- 0x0F RRC (R231). -/
def execRrc (s : State) : Result := doRrc s

/-- 0x17 RAL (R232). -/
def execRal (s : State) : Result := doRal s

/-- 0x1F RAR (R233). -/
def execRar (s : State) : Result := doRar s

/-- 0x27 DAA (R240). -/
def execDaa (s : State) : Result := doDaa s

end Sys2Proof.Machine
end

