-- ==== Sys2Proof/Machine/Stack.lean ====
section
/-! DEFINITION. Stack operations (46_stack). -/

namespace Sys2Proof.Machine

/-- PUSH rp (R250). -/
def doPush (p : Pair) (s : State) : Result :=
  let s := s.advance 1
  .next (s.push16 (s.pair p))

/-- PUSH PSW (R251): A is the high byte, the packed flags the low one. -/
def doPushPsw (s : State) : Result :=
  let s := s.advance 1
  .next (s.push16 (s.reg .a ++ pack s.cfg.pswPad s.flags))

/-- POP rp (R252). -/
def doPop (p : Pair) (s : State) : Result :=
  let s := s.advance 1
  .next (s.popSp.setPair p s.popped)

/-- POP PSW (R253). -/
def doPopPsw (s : State) : Result :=
  let s := s.advance 1
  .next ((s.popSp.setReg .a (s.readMem (s.sp + 1))).setFlags (unpack (s.readMem s.sp)))

/-- SPHL (R254). -/
def doSphl (s : State) : Result :=
  let s := s.advance 1
  .next (s.setSp (s.pair .hl))

/-- 0xC1 POP B (R252). -/
def execPopB (s : State) : Result := doPop .bc s

/-- 0xC5 PUSH B (R250). -/
def execPushB (s : State) : Result := doPush .bc s

/-- 0xD1 POP D (R252). -/
def execPopD (s : State) : Result := doPop .de s

/-- 0xD5 PUSH D (R250). -/
def execPushD (s : State) : Result := doPush .de s

/-- 0xE1 POP H (R252). -/
def execPopH (s : State) : Result := doPop .hl s

/-- 0xE5 PUSH H (R250). -/
def execPushH (s : State) : Result := doPush .hl s

/-- 0xF1 POP PSW (R253). -/
def execPopPsw (s : State) : Result := doPopPsw s

/-- 0xF5 PUSH PSW (R251). -/
def execPushPsw (s : State) : Result := doPushPsw s

/-- 0xF9 SPHL (R254). -/
def execSphl (s : State) : Result := doSphl s

end Sys2Proof.Machine
end

