-- ==== Sys2Proof/Machine/Unimplemented.lean ====
section
/-! DEFINITION. The twelve opcode bytes with no instruction (30_encoding R88): each raises the Unimplemented
outcome, whose effect on the state R330 gives. -/

namespace Sys2Proof.Machine

/-- The Unimplemented outcome (R330). -/
def doUnimplemented (opcode : Byte) (s : State) : Result := .next (s.raiseUnimplemented opcode)

/-- 0x08 no instruction, byte 0x08 (R330). -/
def execUnimpl08 (s : State) : Result := doUnimplemented 0x08 s

/-- 0x10 no instruction, byte 0x10 (R330). -/
def execUnimpl10 (s : State) : Result := doUnimplemented 0x10 s

/-- 0x18 no instruction, byte 0x18 (R330). -/
def execUnimpl18 (s : State) : Result := doUnimplemented 0x18 s

/-- 0x20 no instruction, byte 0x20 (R330). -/
def execUnimpl20 (s : State) : Result := doUnimplemented 0x20 s

/-- 0x28 no instruction, byte 0x28 (R330). -/
def execUnimpl28 (s : State) : Result := doUnimplemented 0x28 s

/-- 0x30 no instruction, byte 0x30 (R330). -/
def execUnimpl30 (s : State) : Result := doUnimplemented 0x30 s

/-- 0x38 no instruction, byte 0x38 (R330). -/
def execUnimpl38 (s : State) : Result := doUnimplemented 0x38 s

/-- 0xCB no instruction, byte 0xCB (R330). -/
def execUnimplCB (s : State) : Result := doUnimplemented 0xCB s

/-- 0xD9 no instruction, byte 0xD9 (R330). -/
def execUnimplD9 (s : State) : Result := doUnimplemented 0xD9 s

/-- 0xDD no instruction, byte 0xDD (R330). -/
def execUnimplDD (s : State) : Result := doUnimplemented 0xDD s

/-- 0xED no instruction, byte 0xED (R330). -/
def execUnimplED (s : State) : Result := doUnimplemented 0xED s

/-- 0xFD no instruction, byte 0xFD (R330). -/
def execUnimplFD (s : State) : Result := doUnimplemented 0xFD s

end Sys2Proof.Machine
end

