-- ==== Sys2Proof/Machine/Fetch.lean ====
section
/-! DEFINITION. Fetching and decoding the next instruction (40_dispatch_alu R101, R102, R103), and the outcome a
step returns (R104). -/

namespace Sys2Proof.Machine

/-- The instruction at pc: its opcode byte and the two bytes after it, modulo 65536 (R55). A shorter
instruction ignores the bytes past its end, and reading them has no effect (R58; log entry 7). -/
def fetchInstr (s : State) : Instr :=
  decode3 (s.readMem s.pc) (s.readMem (s.pc + 1)) (s.readMem (s.pc + 2))

/-- The outcomes of R104. -/
inductive StepOutcome where
  | continued
  | halt
  | unimplemented (addr : Word) (opcode : Byte)
  deriving DecidableEq, Repr

/-- The twelve bytes of R88. -/
def unimplementedOpcodes : List Byte :=
  [0x08, 0x10, 0x18, 0x20, 0x28, 0x30, 0x38, 0xCB, 0xD9, 0xDD, 0xED, 0xFD]

/-- The outcome `step` returns to the host from `s` (R104, R106). `Host.Outcome` carries the next state only,
so the outcome is this function of the state before the step (log entry 4). -/
def stepOutcome (s : State) : StepOutcome :=
  if s.halted then .halt
  else
    match s.fault, s.cfg.unimplPolicy with
    | some f, .fatal => .unimplemented f.addr f.opcode
    | _, _ =>
      let op := s.readMem s.pc
      if op ∈ unimplementedOpcodes then .unimplemented s.pc op
      else if op = 0x76 then .halt
      else .continued

/-- `s` as it is if its next step runs an instruction; otherwise with the halt and the fault record taken
back, so that it does (for `State.withFetchWord`; log entry 6). -/
def State.runnable (s : State) : State :=
  if s.stopped then { s with halted := false, fault := none } else s

end Sys2Proof.Machine
end

