-- ==== Sys2Proof/Machine/Step.lean ====
section
/-! DEFINITION. One step (40_dispatch_alu R100-R106). -/

namespace Sys2Proof.Machine

/-- A halted or faulted state stays as it is (R106); any other runs the instruction at pc (R101, R102). -/
def step (s : State) : Host.Outcome State Fault Refusal :=
  if s.stopped then .next s else exec (fetchInstr s) s

/-- `s` with the instruction of bits `w` at pc, where the next step fetches it, and able to run it (log entry 6). -/
def State.withFetchWord (s : State) (nbits w : Nat) : State :=
  s.runnable.writeBytes s.pc [tableByte nbits w 0, tableByte nbits w 1, tableByte nbits w 2]

end Sys2Proof.Machine
end

