-- ==== Sys2Proof/Machine/Platform.lean ====
section
/-! DEFINITION. The interrupt controller (60_exceptions R340-R349) and the host's other interactions with the
block (R355), each between steps (R59). -/

namespace Sys2Proof.Machine

/-- A request made at this boundary is accepted (R341): IE is set, and the state is neither final nor faulted. -/
def State.accepts (s : State) : Bool := s.ie && !s.final && !s.faulted

/-- Delivery of an accepted request (R342, R343): the entry through the vector, the halt ended under
`WakeOnInterrupt`, IE cleared under `ACK_CLEARS_IE`. -/
def State.deliver (s : State) (n : BitVec 3) : State :=
  { s.enterVector n with
    halted := s.halted && decide (s.cfg.haltPolicy = .terminal)
    ie     := s.ie && !s.cfg.ackClearsIE }

/-- `requestInterrupt(vectorIndex)` (R340): an index above 7 is refused, a request that is not accepted is
dropped with no state change (R344). -/
def requestInterrupt (n : Nat) (s : State) : Result :=
  if n > 7 then .refused (.badVectorIndex n)
  else if s.accepts then .next (s.deliver (BitVec.ofNat 3 n))
  else .next s

/-- What the host does to the block between steps (R355), apart from calling step and reading. -/
inductive HostCall where
  /-- `requestInterrupt(n)` (R340). -/
  | requestInterrupt (n : Nat)
  /-- Set input port 1 (R301). -/
  | setIn1 (v : Byte)
  /-- Set input port 2 (R301). -/
  | setIn2 (v : Byte)
  /-- Write memory from `a` on (R355). -/
  | writeMem (a : Word) (bytes : List Byte)
  /-- Copy a blob to an offset, a host duty before the first step (R372). -/
  | loadRom (offset : Word) (bytes : List Byte)
  deriving DecidableEq, Repr

/-- The effect of a host call (R355): memory, in1 and in2 are all the host writes (D19). -/
def hostCall (c : HostCall) (s : State) : Result :=
  match c with
  | .requestInterrupt n => requestInterrupt n s
  | .setIn1 v => .next { s with ports := { s.ports with in1 := v } }
  | .setIn2 v => .next { s with ports := { s.ports with in2 := v } }
  | .writeMem a bytes => .next (s.writeBytes a bytes)
  | .loadRom offset bytes => .next (s.writeBytes offset bytes)

/-- The `n` bytes of memory from `a` on, as the host reads them between steps (R67, R355). -/
def hostReadMem (s : State) (a : Word) (n : Nat) : List Byte :=
  (List.range n).map fun k => s.readMem (a + BitVec.ofNat 16 k)

/-- The bytes of the video window, one bit a pixel, as a renderer samples them (R60, R355; log entry 8). -/
def videoWindow (s : State) : List Byte :=
  hostReadMem s Config.videoBase ((Config.videoW * Config.videoH + 7) / 8)

/-- What happens at one boundary: the host calls step, or makes another call. -/
inductive HostAction where
  | step
  | call (c : HostCall)
  deriving DecidableEq, Repr

/-- The effect of one action. -/
def hostAction (x : HostAction) (s : State) : Result :=
  match x with
  | .step => step s
  | .call c => hostCall c s

/-- A run under a schedule of host actions, taken one by one, each against the state the last one left
(R346). A statement for every list covers every `INT_SCHEDULE` (R381). -/
def runSchedule (xs : List HostAction) (s : State) : Result :=
  match xs with
  | [] => .next s
  | x :: rest =>
    match hostAction x s with
    | .next t => runSchedule rest t
    | .fault r => .fault r
    | .refused r => .refused r

end Sys2Proof.Machine
end

