-- ==== Sys2Proof/Safety.lean ====
section
/-! DEFINITION. The terms the statements use: what a safe state is, what stays as it was, and what was stored. -/

namespace Sys2Proof.Machine

/-- The invariant of the data: memory is in its canonical form. -/
def State.wf (s : State) : Bool := s.mem.wf

/-- No unimplemented opcode has been met: the claim R331 speaks of, "no fault recorded". -/
def State.safe (s : State) : Prop := s.fault = none

/-- Nothing of the control state, the ports, the parameters or the host's records changed. -/
def SameSystem (s t : State) : Prop :=
  t.ie = s.ie ∧ t.halted = s.halted ∧ t.fault = s.fault ∧ t.ports = s.ports ∧
    t.cfg = s.cfg ∧ t.draws = s.draws ∧ t.outLog = s.outLog

/-- No general register changed. -/
def SameRegs (s t : State) : Prop := ∀ q, t.reg q = s.reg q

/-- No general register but `r` changed, and `r` holds `v`. -/
def SetsReg (r : Reg) (v : Byte) (s t : State) : Prop :=
  ∀ q, t.reg q = if q = r then v else s.reg q

/-- No byte of memory changed. -/
def SameMem (s t : State) : Prop := ∀ a, t.readMem a = s.readMem a

/-- No byte of memory but the one at `a` changed, and that one is `v`. -/
def StoresByte (a : Word) (v : Byte) (s t : State) : Prop :=
  ∀ x, t.readMem x = if x = a then v else s.readMem x

/-- No byte of memory but those at `a` and `a + 1` (modulo 65536) changed; they hold `v`, low byte at `a`. -/
def StoresWord (a : Word) (v : Word) (s t : State) : Prop :=
  ∀ x, t.readMem x =
    if x = a then v.extractLsb' 0 8 else if x = a + 1 then v.extractLsb' 8 8 else s.readMem x

end Sys2Proof.Machine
end

