-- ==== Sys2Proof/Certificates/Slice0/Obligations.lean ====
section
/-! DEFINITION. The statements for the provers. The tables below name the instructions a statement is about and
their operands, as the opcode map of 30_encoding R87 and the rules of 41 to 49 give them; the predicates say in
the spec's arithmetic what a rule says of the flags. A statement about `exec i s` has `s.pc` at the opcode byte
(log entry 7). A clause about `encode` rests on the opcode map, which the spec supplies "from general knowledge,
not in source" (93_implementation_defined G2), and so do the flag effects of its G5 to G7 (log entry 9). That
`cfg`, `draws` and `outLog` stay, which `SameSystem` says too, is about the model's own fields (log entries 1
to 3). -/

namespace Sys2Proof.Claims

open Sys2Proof.Machine

/-! ### Tables -/

/-- MOV r,r' (R140): the instruction, its destination, its source. -/
def movRegRegRows : List (Instr × Reg × Reg) :=
  [(.movBB, .b, .b), (.movBC, .b, .c), (.movBD, .b, .d), (.movBE, .b, .e),
    (.movBH, .b, .h), (.movBL, .b, .l), (.movBA, .b, .a), (.movCB, .c, .b),
    (.movCC, .c, .c), (.movCD, .c, .d), (.movCE, .c, .e), (.movCH, .c, .h),
    (.movCL, .c, .l), (.movCA, .c, .a), (.movDB, .d, .b), (.movDC, .d, .c),
    (.movDD, .d, .d), (.movDE, .d, .e), (.movDH, .d, .h), (.movDL, .d, .l),
    (.movDA, .d, .a), (.movEB, .e, .b), (.movEC, .e, .c), (.movED, .e, .d),
    (.movEE, .e, .e), (.movEH, .e, .h), (.movEL, .e, .l), (.movEA, .e, .a),
    (.movHB, .h, .b), (.movHC, .h, .c), (.movHD, .h, .d), (.movHE, .h, .e),
    (.movHH, .h, .h), (.movHL, .h, .l), (.movHA, .h, .a), (.movLB, .l, .b),
    (.movLC, .l, .c), (.movLD, .l, .d), (.movLE, .l, .e), (.movLH, .l, .h),
    (.movLL, .l, .l), (.movLA, .l, .a), (.movAB, .a, .b), (.movAC, .a, .c),
    (.movAD, .a, .d), (.movAE, .a, .e), (.movAH, .a, .h), (.movAL, .a, .l),
    (.movAA, .a, .a)]

/-- MOV r,M (R141): the instruction and its destination. -/
def movRegMemRows : List (Instr × Reg) :=
  [(.movBM, .b), (.movCM, .c), (.movDM, .d), (.movEM, .e),
    (.movHM, .h), (.movLM, .l), (.movAM, .a)]

/-- MOV M,r (R142): the instruction and its source. -/
def movMemRegRows : List (Instr × Reg) :=
  [(.movMB, .b), (.movMC, .c), (.movMD, .d), (.movME, .e),
    (.movMH, .h), (.movML, .l), (.movMA, .a)]

/-- MVI r,d8 (R143) with the immediate `v`: the instruction and its destination. -/
def mviRegRows (v : Byte) : List (Instr × Reg) :=
  [(.mviB v, .b), (.mviC v, .c), (.mviD v, .d), (.mviE v, .e),
    (.mviH v, .h), (.mviL v, .l), (.mviA v, .a)]

/-- LXI rp,d16 (R145) with the immediate `v`: the instruction and its pair. -/
def lxiRows (v : Word) : List (Instr × Pair) :=
  [(.lxiB v, .bc), (.lxiD v, .de), (.lxiH v, .hl), (.lxiSp v, .sp)]

/-- INR r (R170). -/
def inrRegRows : List (Instr × Reg) :=
  [(.inrB, .b), (.inrC, .c), (.inrD, .d), (.inrE, .e),
    (.inrH, .h), (.inrL, .l), (.inrA, .a)]

/-- DCR r (R172). -/
def dcrRegRows : List (Instr × Reg) :=
  [(.dcrB, .b), (.dcrC, .c), (.dcrD, .d), (.dcrE, .e),
    (.dcrH, .h), (.dcrL, .l), (.dcrA, .a)]

/-- INX rp (R174). -/
def inxRows : List (Instr × Pair) :=
  [(.inxB, .bc), (.inxD, .de), (.inxH, .hl), (.inxSp, .sp)]

/-- DCX rp (R175). -/
def dcxRows : List (Instr × Pair) :=
  [(.dcxB, .bc), (.dcxD, .de), (.dcxH, .hl), (.dcxSp, .sp)]

/-- DAD rp (R204). -/
def dadRows : List (Instr × Pair) :=
  [(.dadB, .bc), (.dadD, .de), (.dadH, .hl), (.dadSp, .sp)]

/-- ADD and ADI (R180, R181, R182), the immediate being `v`: the instruction and its operand. -/
def addRows (v : Byte) : List (Instr × Src) :=
  [(.addB, .loc (.reg .b)), (.addC, .loc (.reg .c)), (.addD, .loc (.reg .d)), (.addE, .loc (.reg .e)),
    (.addH, .loc (.reg .h)), (.addL, .loc (.reg .l)), (.addM, .loc .m), (.addA, .loc (.reg .a)),
    (.adi v, .imm v)]

/-- ADC and ACI (R183, R184, R185), the immediate being `v`: the instruction and its operand. -/
def adcRows (v : Byte) : List (Instr × Src) :=
  [(.adcB, .loc (.reg .b)), (.adcC, .loc (.reg .c)), (.adcD, .loc (.reg .d)), (.adcE, .loc (.reg .e)),
    (.adcH, .loc (.reg .h)), (.adcL, .loc (.reg .l)), (.adcM, .loc .m), (.adcA, .loc (.reg .a)),
    (.aci v, .imm v)]

/-- SUB and SUI (R186, R187, R188), the immediate being `v`: the instruction and its operand. -/
def subRows (v : Byte) : List (Instr × Src) :=
  [(.subB, .loc (.reg .b)), (.subC, .loc (.reg .c)), (.subD, .loc (.reg .d)), (.subE, .loc (.reg .e)),
    (.subH, .loc (.reg .h)), (.subL, .loc (.reg .l)), (.subM, .loc .m), (.subA, .loc (.reg .a)),
    (.sui v, .imm v)]

/-- SBB and SBI (R189, R190, R191), the immediate being `v`: the instruction and its operand. -/
def sbbRows (v : Byte) : List (Instr × Src) :=
  [(.sbbB, .loc (.reg .b)), (.sbbC, .loc (.reg .c)), (.sbbD, .loc (.reg .d)), (.sbbE, .loc (.reg .e)),
    (.sbbH, .loc (.reg .h)), (.sbbL, .loc (.reg .l)), (.sbbM, .loc .m), (.sbbA, .loc (.reg .a)),
    (.sbi v, .imm v)]

/-- ANA and ANI (R192, R193, R194), the immediate being `v`: the instruction and its operand. -/
def anaRows (v : Byte) : List (Instr × Src) :=
  [(.anaB, .loc (.reg .b)), (.anaC, .loc (.reg .c)), (.anaD, .loc (.reg .d)), (.anaE, .loc (.reg .e)),
    (.anaH, .loc (.reg .h)), (.anaL, .loc (.reg .l)), (.anaM, .loc .m), (.anaA, .loc (.reg .a)),
    (.ani v, .imm v)]

/-- XRA and XRI (R195, R196, R197), the immediate being `v`: the instruction and its operand. -/
def xraRows (v : Byte) : List (Instr × Src) :=
  [(.xraB, .loc (.reg .b)), (.xraC, .loc (.reg .c)), (.xraD, .loc (.reg .d)), (.xraE, .loc (.reg .e)),
    (.xraH, .loc (.reg .h)), (.xraL, .loc (.reg .l)), (.xraM, .loc .m), (.xraA, .loc (.reg .a)),
    (.xri v, .imm v)]

/-- ORA and ORI (R198, R199, R200), the immediate being `v`: the instruction and its operand. -/
def oraRows (v : Byte) : List (Instr × Src) :=
  [(.oraB, .loc (.reg .b)), (.oraC, .loc (.reg .c)), (.oraD, .loc (.reg .d)), (.oraE, .loc (.reg .e)),
    (.oraH, .loc (.reg .h)), (.oraL, .loc (.reg .l)), (.oraM, .loc .m), (.oraA, .loc (.reg .a)),
    (.ori v, .imm v)]

/-- CMP and CPI (R201, R202, R203), the immediate being `v`: the instruction and its operand. -/
def cmpRows (v : Byte) : List (Instr × Src) :=
  [(.cmpB, .loc (.reg .b)), (.cmpC, .loc (.reg .c)), (.cmpD, .loc (.reg .d)), (.cmpE, .loc (.reg .e)),
    (.cmpH, .loc (.reg .h)), (.cmpL, .loc (.reg .l)), (.cmpM, .loc .m), (.cmpA, .loc (.reg .a)),
    (.cpi v, .imm v)]

/-- PUSH rp (R250). -/
def pushRows : List (Instr × Pair) :=
  [(.pushB, .bc), (.pushD, .de), (.pushH, .hl)]

/-- POP rp (R252). -/
def popRows : List (Instr × Pair) :=
  [(.popB, .bc), (.popD, .de), (.popH, .hl)]

/-- Jcc a16 (R271) to `a` under the flags `f`: the instruction, its code CCC, its condition (R83, R118). -/
def jccRows (a : Word) (f : Flags) : List (Instr × BitVec 3 × Bool) :=
  [(.jnz a, 0b000, !f.z), (.jz a, 0b001, f.z), (.jnc a, 0b010, !f.cy), (.jc a, 0b011, f.cy),
    (.jpo a, 0b100, !f.p), (.jpe a, 0b101, f.p), (.jp a, 0b110, !f.s), (.jm a, 0b111, f.s)]

/-- Ccc a16 (R273) to `a` under the flags `f`: the instruction, its code CCC, its condition (R83, R118). -/
def cccRows (a : Word) (f : Flags) : List (Instr × BitVec 3 × Bool) :=
  [(.cnz a, 0b000, !f.z), (.cz a, 0b001, f.z), (.cnc a, 0b010, !f.cy), (.cc a, 0b011, f.cy),
    (.cpo a, 0b100, !f.p), (.cpe a, 0b101, f.p), (.cp a, 0b110, !f.s), (.cm a, 0b111, f.s)]

/-- Rcc (R275) under the flags `f`: the instruction, its code CCC, its condition (R83, R118). -/
def rccRows (f : Flags) : List (Instr × BitVec 3 × Bool) :=
  [(.rnz, 0b000, !f.z), (.rz, 0b001, f.z), (.rnc, 0b010, !f.cy), (.rc, 0b011, f.cy),
    (.rpo, 0b100, !f.p), (.rpe, 0b101, f.p), (.rp, 0b110, !f.s), (.rm, 0b111, f.s)]

/-- RST n (R276): the instruction and n. -/
def rstRows : List (Instr × BitVec 3) :=
  [(.rst0, 0), (.rst1, 1), (.rst2, 2), (.rst3, 3),
    (.rst4, 4), (.rst5, 5), (.rst6, 6), (.rst7, 7)]

/-- The twelve bytes with no instruction (R88). -/
def unimplementedRows : List (Instr × Byte) :=
  [(.unimpl08, 0x08), (.unimpl10, 0x10), (.unimpl18, 0x18), (.unimpl20, 0x20),
    (.unimpl28, 0x28), (.unimpl30, 0x30), (.unimpl38, 0x38), (.unimplCB, 0xCB),
    (.unimplD9, 0xD9), (.unimplDD, 0xDD), (.unimplED, 0xED), (.unimplFD, 0xFD)]

/-- The opcodes of LXI, SHLD, LHLD, STA, LDA, JMP, Jcc, CALL and Ccc (R86). -/
def threeByteOpcodes : List (Byte) :=
  [0x01, 0x11, 0x21, 0x22, 0x2A, 0x31, 0x32, 0x3A, 0xC2, 0xC3, 0xC4, 0xCA, 0xCC, 0xCD,
    0xD2, 0xD4, 0xDA, 0xDC, 0xE2, 0xE4, 0xEA, 0xEC, 0xF2, 0xF4, 0xFA, 0xFC]

/-- The opcodes of MVI, ADI to CPI, IN and OUT (R86). -/
def twoByteOpcodes : List (Byte) :=
  [0x06, 0x0E, 0x16, 0x1E, 0x26, 0x2E, 0x36, 0x3E, 0xC6, 0xCE, 0xD3, 0xD6, 0xDB, 0xDE,
    0xE6, 0xEE, 0xF6, 0xFE]

/-- The rows of R119 that write all five flags. -/
def writesAllFlags : Instr → Bool
  | .addB | .addC | .addD | .addE | .addH | .addL | .addM | .addA
  | .adi _ | .adcB | .adcC | .adcD | .adcE | .adcH | .adcL | .adcM
  | .adcA | .aci _ | .subB | .subC | .subD | .subE | .subH | .subL
  | .subM | .subA | .sui _ | .sbbB | .sbbC | .sbbD | .sbbE | .sbbH
  | .sbbL | .sbbM | .sbbA | .sbi _ | .anaB | .anaC | .anaD | .anaE
  | .anaH | .anaL | .anaM | .anaA | .ani _ | .xraB | .xraC | .xraD
  | .xraE | .xraH | .xraL | .xraM | .xraA | .xri _ | .oraB | .oraC
  | .oraD | .oraE | .oraH | .oraL | .oraM | .oraA | .ori _ | .cmpB
  | .cmpC | .cmpD | .cmpE | .cmpH | .cmpL | .cmpM | .cmpA | .cpi _
  | .daa | .popPsw => true
  | _ => false

/-- The rows of R119 that write Z, S, P and AC and keep CY. -/
def writesAllButCy : Instr → Bool
  | .inrB | .inrC | .inrD | .inrE | .inrH | .inrL | .inrM | .inrA
  | .dcrB | .dcrC | .dcrD | .dcrE | .dcrH | .dcrL | .dcrM | .dcrA => true
  | _ => false

/-- The rows of R119 that write CY only. -/
def writesCyOnly : Instr → Bool
  | .dadB | .dadD | .dadH | .dadSp | .rlc | .rrc | .ral | .rar
  | .stc | .cmc => true
  | _ => false

/-- The instructions that may push (R57). -/
def pushes : Instr → Bool
  | .pushB | .pushD | .pushH | .pushPsw | .call _ | .cnz _ | .cz _ | .cnc _
  | .cc _ | .cpo _ | .cpe _ | .cp _ | .cm _ | .rst0 | .rst1 | .rst2
  | .rst3 | .rst4 | .rst5 | .rst6 | .rst7 => true
  | _ => false

/-- The instructions that may pop (R57). -/
def pops : Instr → Bool
  | .popB | .popD | .popH | .popPsw | .ret | .rnz | .rz | .rnc
  | .rc | .rpo | .rpe | .rp | .rm => true
  | _ => false

/-- The instructions that write sp directly (R25). -/
def writesSp : Instr → Bool
  | .lxiSp _ | .inxSp | .dcxSp | .sphl => true
  | _ => false

/-- The instructions R57 gives a memory write. -/
def stores : Instr → Bool
  | .movMB | .movMC | .movMD | .movME | .movMH | .movML | .movMA | .staxB
  | .staxD | .shld _ | .sta _ | .inrM | .dcrM | .mviM _ | .xthl | .pushB
  | .pushD | .pushH | .pushPsw | .call _ | .cnz _ | .cz _ | .cnc _ | .cc _
  | .cpo _ | .cpe _ | .cp _ | .cm _ | .rst0 | .rst1 | .rst2 | .rst3
  | .rst4 | .rst5 | .rst6 | .rst7 => true
  | _ => false

/-! ### Opcode bytes by their fields -/

/-- The opcode `xxyyyzzz`: fields of 2, 3 and 3 bits (R81, R83, R84). -/
def opByte (x : BitVec 2) (y z : BitVec 3) : Byte := x ++ y ++ z

/-- The opcode `xxRPzzzz`: a pair field in bits 5:4 (R82). -/
def opPair (x rp : BitVec 2) (z : BitVec 4) : Byte := x ++ rp ++ z

/-- The bytes of an ALU instruction with the operation field `o` (R84): `10ooosss`, or `11ooo110` and d8. -/
def aluBytes (o : BitVec 3) : Src → List Byte
  | .loc (.reg r) => [opByte 0b10 o r.code]
  | .loc .m => [opByte 0b10 o 0b110]
  | .imm v => [opByte 0b11 o 0b110, v]

/-- The value of an ALU operand (44_arith_logic): x[SSS], the byte at HL, or d8. -/
def aluValue (s : State) : Src → Byte
  | .loc (.reg r) => s.reg r
  | .loc .m => s.readMem (s.reg .h ++ s.reg .l)
  | .imm v => v

/-- The length of an ALU instruction with this operand (R86). -/
def aluLength : Src → BitVec 16
  | .imm _ => 2
  | _ => 1

/-! ### Flags in the spec's arithmetic -/

/-- `zsp(v)` (R110): Z for zero, S for bit 7, P for an even number of ones. -/
def ZspOf (v : Byte) (f : Flags) : Prop :=
  f.z = decide (v.toNat = 0) ∧ f.s = decide (0x80 ≤ v.toNat) ∧
    f.p = !(v.getLsbD 0 ^^ v.getLsbD 1 ^^ v.getLsbD 2 ^^ v.getLsbD 3 ^^ v.getLsbD 4 ^^ v.getLsbD 5
      ^^ v.getLsbD 6 ^^ v.getLsbD 7)

/-- The five flags after `a + v + c` (R111, R114). -/
def AddFlags (a v : Byte) (c : Nat) (f : Flags) : Prop :=
  ZspOf (BitVec.ofNat 8 (a.toNat + v.toNat + c)) f ∧
    f.cy = decide (0xFF < a.toNat + v.toNat + c) ∧
    f.ac = decide (0x0F < a.toNat % 16 + v.toNat % 16 + c)

/-- The five flags after `a - v - c` (R112, R114): CY is the borrow, AC is set when bit 3 does not borrow. -/
def SubFlags (a v : Byte) (c : Nat) (f : Flags) : Prop :=
  ZspOf (BitVec.ofNat 8 (a.toNat + 0x200 - v.toNat - c)) f ∧
    f.cy = decide (a.toNat < v.toNat + c) ∧
    f.ac = decide (v.toNat % 16 + c ≤ a.toNat % 16)

/-- The flags after a logic result `v` (R113): CY cleared, AC as given. -/
def LogicFlags (v : Byte) (ac : Bool) (f : Flags) : Prop :=
  ZspOf v f ∧ f.cy = false ∧ f.ac = ac

/-- CY is `c` and the other flags are as they were. -/
def OnlyCy (c : Bool) (f f' : Flags) : Prop :=
  f'.cy = c ∧ f'.z = f.z ∧ f'.s = f.s ∧ f'.p = f.p ∧ f'.ac = f.ac

/-! ### Effects -/

/-- The pc is `n` further and nothing of the control state, the ports or the host's records changed. -/
def FallsThrough (n : Word) (s t : State) : Prop := t.pc = s.pc + n ∧ SameSystem s t

/-- Only the pc changed, to `v`. -/
def OnlyPc (v : Word) (s t : State) : Prop :=
  t.pc = v ∧ t.sp = s.sp ∧ t.flags = s.flags ∧ SameRegs s t ∧ SameMem s t ∧ SameSystem s t

/-- The pair `p` holds `v`, high register first (R23); no other register and no other pair changed. -/
def SetsPair (p : Pair) (v : Word) (s t : State) : Prop :=
  match p with
  | .bc => t.sp = s.sp ∧
      ∀ q, t.reg q = if q = .b then v.extractLsb' 8 8 else if q = .c then v.extractLsb' 0 8 else s.reg q
  | .de => t.sp = s.sp ∧
      ∀ q, t.reg q = if q = .d then v.extractLsb' 8 8 else if q = .e then v.extractLsb' 0 8 else s.reg q
  | .hl => t.sp = s.sp ∧
      ∀ q, t.reg q = if q = .h then v.extractLsb' 8 8 else if q = .l then v.extractLsb' 0 8 else s.reg q
  | .sp => t.sp = v ∧ SameRegs s t

/-- `v` was pushed (R10) and the pc is `target`; no register, no flag and no other byte changed. -/
def PushesAndGoes (v target : Word) (s t : State) : Prop :=
  t.pc = target ∧ t.sp = s.sp - 2 ∧ StoresWord (s.sp - 2) v s t ∧ t.flags = s.flags ∧ SameRegs s t ∧ SameSystem s t

/-- The word at sp was popped into the pc (R10); no register, no flag and no byte changed. -/
def PopsPc (s t : State) : Prop :=
  t.pc = s.readMem (s.sp + 1) ++ s.readMem s.sp ∧ t.sp = s.sp + 2 ∧ t.flags = s.flags ∧ SameRegs s t ∧
    SameMem s t ∧ SameSystem s t

/-- The state runs an instruction on its next step: neither halted nor faulted under `Fatal` (R106). -/
def Runs (s : State) : Prop := s.halted = false ∧ (s.fault = none ∨ s.cfg.unimplPolicy = .nop)

/-- A request made in this state is accepted (R341). -/
def Accepts (s : State) : Prop :=
  s.ie = true ∧ (s.halted = false ∨ s.cfg.haltPolicy = .wakeOnInterrupt) ∧
    (s.fault = none ∨ s.cfg.unimplPolicy = .nop)

/-- The packed-BCD byte of a number below 100. -/
def bcd (n : Nat) : Byte := BitVec.ofNat 8 (n / 10 * 16 + n % 10)

end Sys2Proof.Claims

open Sys2Proof Sys2Proof.Machine Sys2Proof.Claims

/-! ### Moves, loads and stores (42_move_load) -/

/-- R140: MOV r,r' copies the source register and changes nothing else. -/
def Obligations.MovRegReg : Prop :=
  ∀ i dst src, (i, dst, src) ∈ movRegRegRows →
    encode i = [opByte 0b01 dst.code src.code] ∧
    ∀ s : State, ∃ t, exec i s = .next t ∧ SetsReg dst (s.reg src) s t ∧
      FallsThrough 1 s t ∧ t.sp = s.sp ∧ t.flags = s.flags ∧ SameMem s t

/-- R141: MOV r,M loads the byte at the HL of before the instruction. -/
def Obligations.MovRegMem : Prop :=
  ∀ i dst, (i, dst) ∈ movRegMemRows →
    encode i = [opByte 0b01 dst.code 0b110] ∧
    ∀ s : State, ∃ t, exec i s = .next t ∧ SetsReg dst (s.readMem (s.reg .h ++ s.reg .l)) s t ∧
      FallsThrough 1 s t ∧ t.sp = s.sp ∧ t.flags = s.flags ∧ SameMem s t

/-- R142: MOV M,r stores the source register at HL and changes no other byte. -/
def Obligations.MovMemReg : Prop :=
  ∀ i src, (i, src) ∈ movMemRegRows →
    encode i = [opByte 0b01 0b110 src.code] ∧
    ∀ s : State, ∃ t, exec i s = .next t ∧ StoresByte (s.reg .h ++ s.reg .l) (s.reg src) s t ∧
      FallsThrough 1 s t ∧ t.sp = s.sp ∧ t.flags = s.flags ∧ SameRegs s t

/-- R143, R144: MVI loads the immediate into the register, or stores it at HL. -/
def Obligations.MviRegAndMem : Prop :=
  (∀ v i dst, (i, dst) ∈ mviRegRows v →
    encode i = [opByte 0b00 dst.code 0b110, v] ∧
    ∀ s : State, ∃ t, exec i s = .next t ∧ SetsReg dst v s t ∧
      FallsThrough 2 s t ∧ t.sp = s.sp ∧ t.flags = s.flags ∧ SameMem s t) ∧
  ∀ v, encode (.mviM v) = [0x36, v] ∧
    ∀ s : State, ∃ t, exec (.mviM v) s = .next t ∧ StoresByte (s.reg .h ++ s.reg .l) v s t ∧
      FallsThrough 2 s t ∧ t.sp = s.sp ∧ t.flags = s.flags ∧ SameRegs s t

/-- R145: LXI loads the pair, low byte first in the instruction. -/
def Obligations.LxiPairs : Prop :=
  ∀ v i p, (i, p) ∈ lxiRows v →
    encode i = [opPair 0b00 p.code 0b0001, v.extractLsb' 0 8, v.extractLsb' 8 8] ∧
    ∀ s : State, ∃ t, exec i s = .next t ∧ SetsPair p v s t ∧
      FallsThrough 3 s t ∧ t.flags = s.flags ∧ SameMem s t

/-- R146, R150: LDA and LDAX load A from the direct address, from BC or from DE. -/
def Obligations.LoadsIntoA : Prop :=
  (∀ a, encode (.lda a) = [0x3A, a.extractLsb' 0 8, a.extractLsb' 8 8] ∧
    ∀ s : State, ∃ t, exec (.lda a) s = .next t ∧ SetsReg .a (s.readMem a) s t ∧
      FallsThrough 3 s t ∧ t.sp = s.sp ∧ t.flags = s.flags ∧ SameMem s t) ∧
  encode .ldaxB = [0x0A] ∧ encode .ldaxD = [0x1A] ∧
  ∀ s : State,
    (∃ t, exec .ldaxB s = .next t ∧ SetsReg .a (s.readMem (s.reg .b ++ s.reg .c)) s t ∧
      FallsThrough 1 s t ∧ t.sp = s.sp ∧ t.flags = s.flags ∧ SameMem s t) ∧
    ∃ t, exec .ldaxD s = .next t ∧ SetsReg .a (s.readMem (s.reg .d ++ s.reg .e)) s t ∧
      FallsThrough 1 s t ∧ t.sp = s.sp ∧ t.flags = s.flags ∧ SameMem s t

/-- R147, R151: STA and STAX store A at the direct address, at BC or at DE, and change no other byte. -/
def Obligations.StoresOfA : Prop :=
  (∀ a, encode (.sta a) = [0x32, a.extractLsb' 0 8, a.extractLsb' 8 8] ∧
    ∀ s : State, ∃ t, exec (.sta a) s = .next t ∧ StoresByte a (s.reg .a) s t ∧
      FallsThrough 3 s t ∧ t.sp = s.sp ∧ t.flags = s.flags ∧ SameRegs s t) ∧
  encode .staxB = [0x02] ∧ encode .staxD = [0x12] ∧
  ∀ s : State,
    (∃ t, exec .staxB s = .next t ∧ StoresByte (s.reg .b ++ s.reg .c) (s.reg .a) s t ∧
      FallsThrough 1 s t ∧ t.sp = s.sp ∧ t.flags = s.flags ∧ SameRegs s t) ∧
    ∃ t, exec .staxD s = .next t ∧ StoresByte (s.reg .d ++ s.reg .e) (s.reg .a) s t ∧
      FallsThrough 1 s t ∧ t.sp = s.sp ∧ t.flags = s.flags ∧ SameRegs s t

/-- R148, R149: LHLD and SHLD move L at the address and H at the next one, modulo 65536. -/
def Obligations.LhldShld : Prop :=
  ∀ a, encode (.lhld a) = [0x2A, a.extractLsb' 0 8, a.extractLsb' 8 8] ∧
    encode (.shld a) = [0x22, a.extractLsb' 0 8, a.extractLsb' 8 8] ∧
    ∀ s : State,
      (∃ t, exec (.lhld a) s = .next t ∧
        (∀ q, t.reg q = if q = .l then s.readMem a else if q = .h then s.readMem (a + 1) else s.reg q) ∧
        FallsThrough 3 s t ∧ t.sp = s.sp ∧ t.flags = s.flags ∧ SameMem s t) ∧
      ∃ t, exec (.shld a) s = .next t ∧
        (∀ x, t.readMem x = if x = a then s.reg .l else if x = a + 1 then s.reg .h else s.readMem x) ∧
        FallsThrough 3 s t ∧ t.sp = s.sp ∧ t.flags = s.flags ∧ SameRegs s t

/-! ### Increment and decrement (43_inc_dec) -/

/-- R170, R171: INR adds one to the register or to the byte at HL; Z, S, P, AC written, CY kept. -/
def Obligations.InrForms : Prop :=
  (∀ i r, (i, r) ∈ inrRegRows →
    encode i = [opByte 0b00 r.code 0b100] ∧
    ∀ s : State, ∃ t, exec i s = .next t ∧ SetsReg r (s.reg r + 1) s t ∧
      ZspOf (s.reg r + 1) t.flags ∧ t.flags.ac = decide ((s.reg r).toNat % 16 = 15) ∧
      t.flags.cy = s.flags.cy ∧ FallsThrough 1 s t ∧ t.sp = s.sp ∧ SameMem s t) ∧
  encode .inrM = [0x34] ∧
  ∀ (s : State) (old : Byte), s.readMem (s.reg .h ++ s.reg .l) = old →
    ∃ t, exec .inrM s = .next t ∧ StoresByte (s.reg .h ++ s.reg .l) (old + 1) s t ∧
      ZspOf (old + 1) t.flags ∧ t.flags.ac = decide (old.toNat % 16 = 15) ∧
      t.flags.cy = s.flags.cy ∧ FallsThrough 1 s t ∧ t.sp = s.sp ∧ SameRegs s t

/-- R172, R173: DCR takes one from the register or from the byte at HL; Z, S, P, AC written, CY kept. -/
def Obligations.DcrForms : Prop :=
  (∀ i r, (i, r) ∈ dcrRegRows →
    encode i = [opByte 0b00 r.code 0b101] ∧
    ∀ s : State, ∃ t, exec i s = .next t ∧ SetsReg r (s.reg r - 1) s t ∧
      ZspOf (s.reg r - 1) t.flags ∧ t.flags.ac = decide ((s.reg r).toNat % 16 ≠ 0) ∧
      t.flags.cy = s.flags.cy ∧ FallsThrough 1 s t ∧ t.sp = s.sp ∧ SameMem s t) ∧
  encode .dcrM = [0x35] ∧
  ∀ (s : State) (old : Byte), s.readMem (s.reg .h ++ s.reg .l) = old →
    ∃ t, exec .dcrM s = .next t ∧ StoresByte (s.reg .h ++ s.reg .l) (old - 1) s t ∧
      ZspOf (old - 1) t.flags ∧ t.flags.ac = decide (old.toNat % 16 ≠ 0) ∧
      t.flags.cy = s.flags.cy ∧ FallsThrough 1 s t ∧ t.sp = s.sp ∧ SameRegs s t

/-- R174, R175: INX and DCX change the pair by one modulo 65536 and no flag. -/
def Obligations.InxDcx : Prop :=
  (∀ i p, (i, p) ∈ inxRows →
    encode i = [opPair 0b00 p.code 0b0011] ∧
    ∀ s : State, ∃ t, exec i s = .next t ∧ SetsPair p (s.pair p + 1) s t ∧
      FallsThrough 1 s t ∧ t.flags = s.flags ∧ SameMem s t) ∧
  ∀ i p, (i, p) ∈ dcxRows →
    encode i = [opPair 0b00 p.code 0b1011] ∧
    ∀ s : State, ∃ t, exec i s = .next t ∧ SetsPair p (s.pair p - 1) s t ∧
      FallsThrough 1 s t ∧ t.flags = s.flags ∧ SameMem s t

/-! ### Arithmetic and logic (44_arith_logic) -/

/-- R180 to R185: ADD, ADC, ADI and ACI in every operand form, with all five flags. -/
def Obligations.AdditionForms : Prop :=
  ∀ v i x,
    ((i, x) ∈ addRows v → encode i = aluBytes 0b000 x ∧
      ∀ s : State, ∃ t, exec i s = .next t ∧
        SetsReg .a (BitVec.ofNat 8 ((s.reg .a).toNat + (aluValue s x).toNat)) s t ∧
        AddFlags (s.reg .a) (aluValue s x) 0 t.flags ∧
        FallsThrough (aluLength x) s t ∧ t.sp = s.sp ∧ SameMem s t) ∧
    ((i, x) ∈ adcRows v → encode i = aluBytes 0b001 x ∧
      ∀ s : State, ∃ t, exec i s = .next t ∧
        SetsReg .a (BitVec.ofNat 8 ((s.reg .a).toNat + (aluValue s x).toNat + s.flags.cy.toNat)) s t ∧
        AddFlags (s.reg .a) (aluValue s x) s.flags.cy.toNat t.flags ∧
        FallsThrough (aluLength x) s t ∧ t.sp = s.sp ∧ SameMem s t)

/-- R186 to R191: SUB, SBB, SUI and SBI in every operand form; CY is the borrow. -/
def Obligations.SubtractionForms : Prop :=
  ∀ v i x,
    ((i, x) ∈ subRows v → encode i = aluBytes 0b010 x ∧
      ∀ s : State, ∃ t, exec i s = .next t ∧ SetsReg .a (s.reg .a - aluValue s x) s t ∧
        SubFlags (s.reg .a) (aluValue s x) 0 t.flags ∧
        FallsThrough (aluLength x) s t ∧ t.sp = s.sp ∧ SameMem s t) ∧
    ((i, x) ∈ sbbRows v → encode i = aluBytes 0b011 x ∧
      ∀ s : State, ∃ t, exec i s = .next t ∧
        SetsReg .a (s.reg .a - aluValue s x - BitVec.ofNat 8 s.flags.cy.toNat) s t ∧
        SubFlags (s.reg .a) (aluValue s x) s.flags.cy.toNat t.flags ∧
        FallsThrough (aluLength x) s t ∧ t.sp = s.sp ∧ SameMem s t)

/-- R192, R193, R194: ANA and ANI; AC is 0, or bit 3 of `a | v` under `ANA_AC = Intel`. -/
def Obligations.AndForms : Prop :=
  ∀ v i x, (i, x) ∈ anaRows v → encode i = aluBytes 0b100 x ∧
    ∀ s : State, ∃ t, exec i s = .next t ∧ SetsReg .a (s.reg .a &&& aluValue s x) s t ∧
      LogicFlags (s.reg .a &&& aluValue s x)
        (decide (s.cfg.anaAC = .intel) && ((s.reg .a).getLsbD 3 || (aluValue s x).getLsbD 3)) t.flags ∧
      FallsThrough (aluLength x) s t ∧ t.sp = s.sp ∧ SameMem s t

/-- R195 to R200: XRA, XRI, ORA and ORI; CY and AC cleared. -/
def Obligations.XorOrForms : Prop :=
  ∀ v i x,
    ((i, x) ∈ xraRows v → encode i = aluBytes 0b101 x ∧
      ∀ s : State, ∃ t, exec i s = .next t ∧ SetsReg .a (s.reg .a ^^^ aluValue s x) s t ∧
        LogicFlags (s.reg .a ^^^ aluValue s x) false t.flags ∧
        FallsThrough (aluLength x) s t ∧ t.sp = s.sp ∧ SameMem s t) ∧
    ((i, x) ∈ oraRows v → encode i = aluBytes 0b110 x ∧
      ∀ s : State, ∃ t, exec i s = .next t ∧ SetsReg .a (s.reg .a ||| aluValue s x) s t ∧
        LogicFlags (s.reg .a ||| aluValue s x) false t.flags ∧
        FallsThrough (aluLength x) s t ∧ t.sp = s.sp ∧ SameMem s t)

/-- R201, R202, R203: CMP and CPI write SUB's flags and no register; Z exactly when equal, CY exactly when
A is less, unsigned. -/
def Obligations.CompareForms : Prop :=
  ∀ v i x, (i, x) ∈ cmpRows v → encode i = aluBytes 0b111 x ∧
    ∀ s : State, ∃ t, exec i s = .next t ∧ SubFlags (s.reg .a) (aluValue s x) 0 t.flags ∧
      (t.flags.z = true ↔ s.reg .a = aluValue s x) ∧
      (t.flags.cy = true ↔ (s.reg .a).toNat < (aluValue s x).toNat) ∧
      SameRegs s t ∧ FallsThrough (aluLength x) s t ∧ t.sp = s.sp ∧ SameMem s t

/-- R204: DAD adds the pair to HL modulo 65536; CY is the carry, no other flag changes. -/
def Obligations.DadPairs : Prop :=
  ∀ i p, (i, p) ∈ dadRows →
    encode i = [opPair 0b00 p.code 0b1001] ∧
    ∀ s : State, ∃ t, exec i s = .next t ∧ SetsPair .hl (s.pair .hl + s.pair p) s t ∧
      OnlyCy (decide (0xFFFF < (s.pair .hl).toNat + (s.pair p).toNat)) s.flags t.flags ∧
      FallsThrough 1 s t ∧ SameMem s t

/-- R205, R206, R207: CMA complements A and writes no flag; STC and CMC write CY only. -/
def Obligations.ComplementAndCarry : Prop :=
  encode .cma = [0x2F] ∧ encode .stc = [0x37] ∧ encode .cmc = [0x3F] ∧
  ∀ s : State,
    (∃ t, exec .cma s = .next t ∧ SetsReg .a (BitVec.ofNat 8 (255 - (s.reg .a).toNat)) s t ∧
      t.flags = s.flags ∧ FallsThrough 1 s t ∧ t.sp = s.sp ∧ SameMem s t) ∧
    (∃ t, exec .stc s = .next t ∧ OnlyCy true s.flags t.flags ∧
      SameRegs s t ∧ FallsThrough 1 s t ∧ t.sp = s.sp ∧ SameMem s t) ∧
    ∃ t, exec .cmc s = .next t ∧ OnlyCy (!s.flags.cy) s.flags t.flags ∧
      SameRegs s t ∧ FallsThrough 1 s t ∧ t.sp = s.sp ∧ SameMem s t

/-! ### Rotates and decimal adjust (45_rotate_daa) -/

/-- R230 to R233: RLC and RRC rotate A by one; RAL and RAR rotate the nine bits {CY, A} by one. -/
def Obligations.Rotates : Prop :=
  encode .rlc = [0x07] ∧ encode .rrc = [0x0F] ∧ encode .ral = [0x17] ∧ encode .rar = [0x1F] ∧
  ∀ s : State,
    (∃ t, exec .rlc s = .next t ∧ SetsReg .a ((s.reg .a).rotateLeft 1) s t ∧
      OnlyCy ((s.reg .a).getLsbD 7) s.flags t.flags ∧ FallsThrough 1 s t ∧ t.sp = s.sp ∧ SameMem s t) ∧
    (∃ t, exec .rrc s = .next t ∧ SetsReg .a ((s.reg .a).rotateRight 1) s t ∧
      OnlyCy ((s.reg .a).getLsbD 0) s.flags t.flags ∧ FallsThrough 1 s t ∧ t.sp = s.sp ∧ SameMem s t) ∧
    (∃ t, exec .ral s = .next t ∧ SetsReg .a (t.reg .a) s t ∧ OnlyCy t.flags.cy s.flags t.flags ∧
      BitVec.ofBool t.flags.cy ++ t.reg .a = (BitVec.ofBool s.flags.cy ++ s.reg .a).rotateLeft 1 ∧
      FallsThrough 1 s t ∧ t.sp = s.sp ∧ SameMem s t) ∧
    ∃ t, exec .rar s = .next t ∧ SetsReg .a (t.reg .a) s t ∧ OnlyCy t.flags.cy s.flags t.flags ∧
      BitVec.ofBool t.flags.cy ++ t.reg .a = (BitVec.ofBool s.flags.cy ++ s.reg .a).rotateRight 1 ∧
      FallsThrough 1 s t ∧ t.sp = s.sp ∧ SameMem s t

/-- R240: DAA adds 0x06 and 0x60 as its two tests say, in one addition. -/
def Obligations.DecimalAdjust : Prop :=
  encode .daa = [0x27] ∧
  ∀ (s : State) (lo hi : Nat) (low high : Bool),
    lo = (s.reg .a).toNat % 16 → hi = (s.reg .a).toNat / 16 →
    low = (decide (lo > 9) || s.flags.ac) →
    high = (decide (hi > 9) || s.flags.cy || (decide (hi ≥ 9) && decide (lo > 9))) →
    ∃ t, exec .daa s = .next t ∧
      SetsReg .a (s.reg .a + (if low then 0x06 else 0) + (if high then 0x60 else 0)) s t ∧
      ZspOf (t.reg .a) t.flags ∧ t.flags.cy = high ∧
      t.flags.ac = decide (15 < lo + if low then 6 else 0) ∧
      FallsThrough 1 s t ∧ t.sp = s.sp ∧ SameMem s t

/-- R240's purpose: ADI of one packed-BCD byte to another and then DAA give the packed-BCD sum modulo 100,
with CY when the sum is 100 or more. -/
def Obligations.DaaAddsPackedBcd : Prop :=
  ∀ (x y : Nat) (s : State), x < 100 → y < 100 → s.reg .a = bcd x →
    ∃ t u, exec (.adi (bcd y)) s = .next t ∧ exec .daa t = .next u ∧
      u.reg .a = bcd ((x + y) % 100) ∧ u.flags.cy = decide (100 ≤ x + y)

/-! ### Stack operations (46_stack) -/

/-- R250: PUSH rp stores the high byte at sp - 1 and the low byte at sp - 2; R252: POP rp reads them back. -/
def Obligations.PushAndPopPairs : Prop :=
  (∀ i p, (i, p) ∈ pushRows →
    encode i = [opPair 0b11 p.code 0b0101] ∧
    ∀ s : State, ∃ t, exec i s = .next t ∧ PushesAndGoes (s.pair p) (s.pc + 1) s t) ∧
  ∀ i p, (i, p) ∈ popRows →
    encode i = [opPair 0b11 p.code 0b0001] ∧
    ∀ s : State, ∃ t, exec i s = .next t ∧ t.sp = s.sp + 2 ∧
      SetsPair p (s.readMem (s.sp + 1) ++ s.readMem s.sp) { s with sp := s.sp + 2 } t ∧
      FallsThrough 1 s t ∧ t.flags = s.flags ∧ SameMem s t

/-- R251: PUSH PSW stores A at sp - 1 and the packed flag byte at sp - 2, bits Z S P CY AC from bit 0 up and
PSW_PAD in bits 7:5. R253: POP PSW loads A and the five flags and ignores bits 7:5. -/
def Obligations.PushAndPopPsw : Prop :=
  encode .pushPsw = [0xF5] ∧ encode .popPsw = [0xF1] ∧
  ∀ s : State,
    (∃ t, exec .pushPsw s = .next t ∧
      PushesAndGoes (s.reg .a ++ BitVec.ofNat 8 (s.flags.z.toNat + 2 * s.flags.s.toNat + 4 * s.flags.p.toNat
        + 8 * s.flags.cy.toNat + 16 * s.flags.ac.toNat + 32 * s.cfg.pswPad.toNat)) (s.pc + 1) s t) ∧
    ∃ t, exec .popPsw s = .next t ∧ t.sp = s.sp + 2 ∧ SetsReg .a (s.readMem (s.sp + 1)) s t ∧
      t.flags.z = (s.readMem s.sp).getLsbD 0 ∧ t.flags.s = (s.readMem s.sp).getLsbD 1 ∧
      t.flags.p = (s.readMem s.sp).getLsbD 2 ∧ t.flags.cy = (s.readMem s.sp).getLsbD 3 ∧
      t.flags.ac = (s.readMem s.sp).getLsbD 4 ∧ FallsThrough 1 s t ∧ SameMem s t

/-- R254, R277: SPHL loads sp from HL, PCHL jumps to HL; nothing else changes. -/
def Obligations.SphlPchl : Prop :=
  encode .sphl = [0xF9] ∧ encode .pchl = [0xE9] ∧
  ∀ s : State,
    (∃ t, exec .sphl s = .next t ∧ t.sp = s.reg .h ++ s.reg .l ∧ t.flags = s.flags ∧
      SameRegs s t ∧ FallsThrough 1 s t ∧ SameMem s t) ∧
    ∃ t, exec .pchl s = .next t ∧ OnlyPc (s.reg .h ++ s.reg .l) s t

/-- The source's round trips (R252, R253, R274), for every PUSH rp and every POP rp: POP of the same pair after
PUSH restores every register, and POP of another pair moves the pushed pair into it and nothing else. POP PSW
after PUSH PSW restores A and the flags, and RET after CALL the pc. In each, sp nets to what it was and only the
two bytes below sp changed. -/
def Obligations.StackRoundTrips : Prop :=
  ∀ s : State,
    (∀ i j p, (i, p) ∈ pushRows → (j, p) ∈ popRows →
      ∃ t u, exec i s = .next t ∧ exec j t = .next u ∧ SameRegs s u ∧ u.sp = s.sp ∧ u.flags = s.flags ∧
        StoresWord (s.sp - 2) (s.pair p) s u ∧ FallsThrough 2 s u) ∧
    (∀ i j p q, (i, p) ∈ pushRows → (j, q) ∈ popRows →
      ∃ t u, exec i s = .next t ∧ exec j t = .next u ∧ SetsPair q (s.pair p) s u ∧ u.sp = s.sp ∧
        u.flags = s.flags ∧ StoresWord (s.sp - 2) (s.pair p) s u ∧ FallsThrough 2 s u) ∧
    (∃ t u, exec .pushPsw s = .next t ∧ exec .popPsw t = .next u ∧ SameRegs s u ∧ u.sp = s.sp ∧
      u.flags = s.flags ∧ (∀ x, x ≠ s.sp - 1 → x ≠ s.sp - 2 → u.readMem x = s.readMem x) ∧ FallsThrough 2 s u) ∧
    ∀ a : Word, ∃ t u, exec (.call a) s = .next t ∧ t.pc = a ∧ exec .ret t = .next u ∧ SameRegs s u ∧
      u.sp = s.sp ∧ u.flags = s.flags ∧ StoresWord (s.sp - 2) (s.pc + 3) s u ∧ FallsThrough 3 s u

/-! ### Control flow (47_control_flow) -/

/-- R270, R271: JMP goes to the operand; Jcc goes there when its condition holds and otherwise to the
instruction after it. -/
def Obligations.Jumps : Prop :=
  (∀ a, encode (.jmp a) = [0xC3, a.extractLsb' 0 8, a.extractLsb' 8 8] ∧
    ∀ s : State, ∃ t, exec (.jmp a) s = .next t ∧ OnlyPc a s t) ∧
  ∀ (a : Word) (s : State) i ccc (b : Bool), (i, ccc, b) ∈ jccRows a s.flags →
    encode i = [opByte 0b11 ccc 0b010, a.extractLsb' 0 8, a.extractLsb' 8 8] ∧
    ∃ t, exec i s = .next t ∧ OnlyPc (if b then a else s.pc + 3) s t

/-- R272, R273: CALL pushes the address after it and goes to the operand; Ccc does so when its condition
holds, and otherwise writes no memory and leaves sp. -/
def Obligations.Calls : Prop :=
  (∀ a, encode (.call a) = [0xCD, a.extractLsb' 0 8, a.extractLsb' 8 8] ∧
    ∀ s : State, ∃ t, exec (.call a) s = .next t ∧ PushesAndGoes (s.pc + 3) a s t) ∧
  ∀ (a : Word) (s : State) i ccc (b : Bool), (i, ccc, b) ∈ cccRows a s.flags →
    encode i = [opByte 0b11 ccc 0b100, a.extractLsb' 0 8, a.extractLsb' 8 8] ∧
    ∃ t, exec i s = .next t ∧
      if b then PushesAndGoes (s.pc + 3) a s t else OnlyPc (s.pc + 3) s t

/-- R274, R275: RET pops the pc; Rcc does so when its condition holds, and otherwise only falls through. -/
def Obligations.Returns : Prop :=
  encode .ret = [0xC9] ∧
  (∀ s : State, ∃ t, exec .ret s = .next t ∧ PopsPc s t) ∧
  ∀ (s : State) i ccc (b : Bool), (i, ccc, b) ∈ rccRows s.flags →
    encode i = [opByte 0b11 ccc 0b000] ∧
    ∃ t, exec i s = .next t ∧ if b then PopsPc s t else OnlyPc (s.pc + 1) s t

/-- R276: RST n pushes the address after it and goes to 8 * n; IE is not changed. -/
def Obligations.Restarts : Prop :=
  ∀ i n, (i, n) ∈ rstRows →
    encode i = [opByte 0b11 n 0b111] ∧
    ∀ s : State, ∃ t, exec i s = .next t ∧ PushesAndGoes (s.pc + 1) (BitVec.ofNat 16 (8 * n.toNat)) s t

/-! ### Exchanges (48_exchange) -/

/-- R290, R291: XCHG swaps DE and HL; XTHL swaps HL with the word at sp, which stays. -/
def Obligations.Exchanges : Prop :=
  encode .xchg = [0xEB] ∧ encode .xthl = [0xE3] ∧
  ∀ s : State,
    (∃ t, exec .xchg s = .next t ∧
      t.reg .h = s.reg .d ∧ t.reg .l = s.reg .e ∧ t.reg .d = s.reg .h ∧ t.reg .e = s.reg .l ∧
      t.reg .a = s.reg .a ∧ t.reg .b = s.reg .b ∧ t.reg .c = s.reg .c ∧
      t.sp = s.sp ∧ t.flags = s.flags ∧ FallsThrough 1 s t ∧ SameMem s t) ∧
    ∃ t, exec .xthl s = .next t ∧
      SetsPair .hl (s.readMem (s.sp + 1) ++ s.readMem s.sp) s t ∧
      StoresWord s.sp (s.reg .h ++ s.reg .l) s t ∧ t.flags = s.flags ∧ FallsThrough 1 s t

/-! ### Ports and interrupt enable (49_io_interrupt_enable) -/

/-- IN loads A with in1, in2, the shift result, or for another port a value nothing constrains, and changes
no register else, no flag, no byte and no port register. That the model counts the host's answers in `draws`
is its own choice (log entry 2). -/
def Obligations.InFromPorts : Prop :=
  ∀ p, encode (.inPort p) = [0xDB, p] ∧
    ∀ s : State, ∃ t, exec (.inPort p) s = .next t ∧
      SetsReg .a
        (if p.toNat = 1 then s.ports.in1
         else if p.toNat = 2 then s.ports.in2
         else if p.toNat = 3 then
           BitVec.ofNat 8 ((s.ports.shift1.toNat * 256 + s.ports.shift0.toNat) / 2 ^ (8 - s.ports.shiftAmount.toNat))
         else Config.unmappedIn p s.draws) s t ∧
      t.draws = (if 1 ≤ p.toNat ∧ p.toNat ≤ 3 then s.draws else s.draws + 1) ∧
      t.pc = s.pc + 2 ∧ t.sp = s.sp ∧ t.flags = s.flags ∧ t.ports = s.ports ∧ SameMem s t ∧
      t.ie = s.ie ∧ t.halted = s.halted ∧ t.fault = s.fault ∧ t.cfg = s.cfg ∧ t.outLog = s.outLog

/-- OUT 2 latches the low three bits of A, OUT 4 shifts the data latch, and OUT elsewhere shows the host the
pair of port and value and changes no core state. That the model keeps the shown pairs in `outLog` is its own
choice (log entry 3). -/
def Obligations.OutToPorts : Prop :=
  ∀ p, encode (.outPort p) = [0xD3, p] ∧
    ∀ s : State, ∃ t, exec (.outPort p) s = .next t ∧
      t.ports.in1 = s.ports.in1 ∧ t.ports.in2 = s.ports.in2 ∧
      t.ports.shiftAmount.toNat =
        (if p.toNat = 2 then (s.reg .a).toNat % 8 else s.ports.shiftAmount.toNat) ∧
      t.ports.shift0 = (if p.toNat = 4 then s.ports.shift1 else s.ports.shift0) ∧
      t.ports.shift1 = (if p.toNat = 4 then s.reg .a else s.ports.shift1) ∧
      t.outLog = (if p.toNat = 2 ∨ p.toNat = 4 then s.outLog
        else s.outLog ++ [{ port := p, value := s.reg .a }]) ∧
      t.pc = s.pc + 2 ∧ t.sp = s.sp ∧ t.flags = s.flags ∧ SameRegs s t ∧ SameMem s t ∧
      t.ie = s.ie ∧ t.halted = s.halted ∧ t.fault = s.fault ∧ t.cfg = s.cfg ∧ t.draws = s.draws

/-- R309, R310, R379: EI sets IE and a request at the very next boundary is accepted; DI clears it and such
a request is dropped. -/
def Obligations.EnableAndDisable : Prop :=
  encode .ei = [0xFB] ∧ encode .di = [0xF3] ∧
  ∀ s : State,
    exec .ei s = .next { s with pc := s.pc + 1, ie := true } ∧
    exec .di s = .next { s with pc := s.pc + 1, ie := false } ∧
    ∀ n, n ≤ 7 →
      (∀ t, Runs s → exec .ei s = .next t → ∃ u, requestInterrupt n t = .next u ∧
        u.pc = BitVec.ofNat 16 (8 * n) ∧ u.readMem (s.sp - 1) ++ u.readMem (s.sp - 2) = s.pc + 1) ∧
      ∀ t, exec .di s = .next t → requestInterrupt n t = .next t

/-! ### No-op, halt and the twelve bytes (41_nop_halt, 60_exceptions) -/

/-- R130, R131: NOP only moves the pc; HLT leaves the pc after it and halts, and every later step returns
Halt and changes nothing. -/
def Obligations.NopAndHalt : Prop :=
  encode .nop = [0x00] ∧ encode .hlt = [0x76] ∧
  ∀ s : State,
    (∃ t, exec .nop s = .next t ∧ OnlyPc (s.pc + 1) s t) ∧
    exec .hlt s = .next { s with pc := s.pc + 1, halted := true } ∧
    (Runs s → s.readMem s.pc = 0x76 →
      ∃ t, step s = .next t ∧ t = { s with pc := s.pc + 1, halted := true } ∧ stepOutcome s = .halt ∧
        step t = .next t ∧ stepOutcome t = .halt)

/-- R330: each of the twelve bytes leaves the pc after it, records the fault if none was, changes nothing
else, and the step returns Unimplemented with its address and byte. -/
def Obligations.UnimplementedOpcodes : Prop :=
  ∀ i b, (i, b) ∈ unimplementedRows →
    encode i = [b] ∧
    ∀ s : State,
      exec i s = .next { s with
        pc := s.pc + 1
        fault := if s.fault = none then some { addr := s.pc, opcode := b } else s.fault } ∧
      (Runs s → s.readMem s.pc = b → step s = exec i s ∧ stepOutcome s = .unimplemented s.pc b)

/-! ### Encoding (30_encoding) -/

/-- Decoding the bytes of any instruction gives it back, with every operand, and leaves what follows. -/
def Obligations.DecodeOfEncode : Prop :=
  ∀ (i : Instr) (rest : List Byte), decode (encode i ++ rest) = .ok i rest

/-- What decodes to an instruction is that instruction's encoding: no bit of it is dropped (R88). -/
def Obligations.EncodeOfDecode : Prop :=
  ∀ (bytes rest : List Byte) (i : Instr), decode bytes = .ok i rest → bytes = encode i ++ rest

/-- R88, R89: a row is no instruction exactly when its opcode byte is one of the twelve. -/
def Obligations.TwelveBytesHaveNoInstruction : Prop :=
  ∀ op b1 b2 : Byte, (decode3 op b1 b2).wellFormed = false ↔
    op ∈ [0x08#8, 0x10#8, 0x18#8, 0x20#8, 0x28#8, 0x30#8, 0x38#8, 0xCB#8, 0xD9#8, 0xDD#8, 0xED#8, 0xFD#8]

/-- R86: the opcode byte alone gives the length, 3, 2 or 1 as the rule lists them. -/
def Obligations.LengthByOpcode : Prop :=
  ∀ (op b1 b2 : Byte) (rest : List Byte), ∃ i,
    decode (op :: b1 :: b2 :: rest) =
      .ok i (if op ∈ threeByteOpcodes then rest else if op ∈ twoByteOpcodes then b2 :: rest else b1 :: b2 :: rest)

/-- Words written out from the patterns of R87, one for each family, decode to their instructions. -/
def Obligations.SampleWordsDecode : Prop :=
  decode [0b01111000] = .ok .movAB [] ∧ decode [0b00100001, 0x00, 0x24] = .ok (.lxiH 0x2400) [] ∧
  decode [0b00110101] = .ok .dcrM [] ∧ decode [0b10011001] = .ok .sbbC [] ∧
  decode [0b11100110, 0x0F] = .ok (.ani 0x0F) [] ∧ decode [0b00011111] = .ok .rar [] ∧
  decode [0b11110101] = .ok .pushPsw [] ∧ decode [0b11011010, 0x34, 0x12] = .ok (.jc 0x1234) [] ∧
  decode [0b11010111] = .ok .rst2 [] ∧ decode [0b11100011] = .ok .xthl [] ∧
  decode [0b11011011, 0x03] = .ok (.inPort 3) [] ∧ decode [0b01110110] = .ok .hlt [] ∧
  decode [0b11001011] = .ok .unimplCB [] ∧ decode [] = .noBytes ∧ decode [0xC3, 0x00] = .operandMissing 0xC3

/-! ### The step (40_dispatch_alu) -/

/-- R101, R102: the bytes at pc always decode, and a step of a running state is exec of what they decode to. -/
def Obligations.StepRunsDecoded : Prop :=
  ∀ s : State, Runs s →
    (∃ i rest, decode [s.readMem s.pc, s.readMem (s.pc + 1), s.readMem (s.pc + 2)] = .ok i rest) ∧
    ∀ i rest, decode [s.readMem s.pc, s.readMem (s.pc + 1), s.readMem (s.pc + 2)] = .ok i rest →
      step s = exec i s

/-- R106: a step of a halted state returns Halt, a step of a faulted state under Fatal returns its fault, and
both change nothing. -/
def Obligations.StoppedStateStays : Prop :=
  ∀ s : State,
    (s.halted = true → step s = .next s ∧ stepOutcome s = .halt) ∧
    ∀ f, s.halted = false → s.fault = some f → s.cfg.unimplPolicy = .fatal →
      step s = .next s ∧ stepOutcome s = .unimplemented f.addr f.opcode

/-- R104: the outcome is Halt exactly when the next state is halted; otherwise Unimplemented with the record of
a state faulted under Fatal, or with the address and byte when the fetched byte has no instruction; otherwise
Continue. Where no fault was recorded before, Unimplemented is exactly the record the step leaves. That the
outcome is the function `stepOutcome` of the state is the model's choice (log entry 4). -/
def Obligations.OutcomeMatchesNextState : Prop :=
  ∀ s t : State, step s = .next t →
    (stepOutcome s = .halt ↔ t.halted = true) ∧
    (t.halted = false → ∀ f, s.fault = some f → s.cfg.unimplPolicy = .fatal →
      stepOutcome s = .unimplemented f.addr f.opcode) ∧
    (Runs s → ∀ a o, stepOutcome s = .unimplemented a o ↔
      a = s.pc ∧ o = s.readMem s.pc ∧ ∃ i, (i, o) ∈ unimplementedRows) ∧
    (Runs s → s.fault = none → ∀ a o, stepOutcome s = .unimplemented a o ↔
      t.fault = some { addr := a, opcode := o })

/-- R105, R106, R350: every instruction may be executed in every state, there being one mode and no privilege,
and a step from every state answers a next state. That Halt, Unimplemented and the step of a halted or fatally
faulted state, which executes no instruction, are next states is the model's choice (log entry 4). -/
def Obligations.StepIsTotal : Prop :=
  (∀ (i : Instr) (s : State), ∃ t, exec i s = .next t) ∧ ∀ s : State, ∃ t, step s = .next t

/-! ### Whole-machine rules -/

/-- Every step keeps memory in its canonical form. -/
def Obligations.StepKeepsMemoryForm : Prop :=
  ∀ s t : State, s.wf = true → step s = .next t → t.wf = true

/-- R37: the value of every piece of state after reset; the memory's form holds there. -/
def Obligations.ResetState : Prop :=
  (∀ q, State.reset.reg q = 0) ∧ State.reset.sp = 0 ∧ State.reset.pc = 0 ∧
  State.reset.flags = { z := false, s := false, p := false, cy := false, ac := false } ∧
  State.reset.ie = false ∧ State.reset.halted = false ∧ State.reset.fault = none ∧
  State.reset.ports.in1 = 0 ∧ State.reset.ports.in2 = 0 ∧ State.reset.ports.shift0 = 0 ∧
  State.reset.ports.shift1 = 0 ∧ State.reset.ports.shiftAmount = 0 ∧
  (∀ a, State.reset.readMem a = 0) ∧ State.reset.wf = true

/-- R332 over every schedule: whatever the host does between steps and however many steps run, a recorded
fault stays the same record, the parameters stay, and memory keeps its form. -/
def Obligations.FaultRecordNeverCleared : Prop :=
  ∀ (xs : List HostAction) (s t : State), runSchedule xs s = .next t →
    (∀ f, s.fault = some f → t.fault = some f) ∧ t.cfg = s.cfg ∧ (s.wf = true → t.wf = true)

/-- R28, R309, R310: of all instructions only EI sets IE and only DI clears it. -/
def Obligations.OnlyEiAndDiWriteIe : Prop :=
  ∀ (i : Instr) (s t : State), exec i s = .next t → t.ie ≠ s.ie →
    i = .ei ∧ t.ie = true ∨ i = .di ∧ t.ie = false

/-- Which flags an instruction leaves alone, by the rows of the table R119, for every instruction. -/
def Obligations.FlagsLeftAlone : Prop :=
  ∀ (i : Instr) (s t : State), exec i s = .next t →
    (writesAllFlags i = false → writesAllButCy i = false → writesCyOnly i = false → t.flags = s.flags) ∧
    (writesAllButCy i = true → t.flags.cy = s.flags.cy) ∧
    (writesCyOnly i = true → OnlyCy t.flags.cy s.flags t.flags)

/-- R25: only a push lowers sp by 2, only a pop raises it by 2, and only LXI SP, INX SP, DCX SP and SPHL write
it directly. -/
def Obligations.StackPointerWriters : Prop :=
  ∀ (i : Instr) (s t : State), exec i s = .next t → t.sp ≠ s.sp →
    pushes i = true ∧ t.sp = s.sp - 2 ∨ pops i = true ∧ t.sp = s.sp + 2 ∨ writesSp i = true

/-- R301, R32: no instruction and no interrupt request writes in1 or in2, and only OUT 2 and OUT 4 write the
shift registers. -/
def Obligations.PortRegisterWriters : Prop :=
  (∀ (i : Instr) (s t : State), exec i s = .next t →
    t.ports.in1 = s.ports.in1 ∧ t.ports.in2 = s.ports.in2 ∧
    (t.ports.shiftAmount ≠ s.ports.shiftAmount → i = .outPort 2) ∧
    (t.ports.shift0 ≠ s.ports.shift0 ∨ t.ports.shift1 ≠ s.ports.shift1 → i = .outPort 4)) ∧
  ∀ (n : Nat) (s t : State), requestInterrupt n s = .next t → t.ports = s.ports

/-- R32, R35: only IN 3 lets a program see the shift registers. Two states that differ in nothing else run
any other instruction to states that differ in nothing else. -/
def Obligations.ShiftRegistersSeenOnlyByIn3 : Prop :=
  ∀ (i : Instr) (s s' t : State), i ≠ .inPort 3 →
    s'.ports.in1 = s.ports.in1 → s'.ports.in2 = s.ports.in2 → s' = { s with ports := s'.ports } →
    exec i s = .next t →
    ∃ t', exec i s' = .next t' ∧ t' = { t with ports := t'.ports } ∧
      t'.ports.in1 = t.ports.in1 ∧ t'.ports.in2 = t.ports.in2

/-- An instruction to which the table R57 gives no memory write changes no byte of memory. -/
def Obligations.OnlyStoringInstructionsWriteMemory : Prop :=
  ∀ (i : Instr) (s t : State), exec i s = .next t → stores i = false → SameMem s t

/-- R51, R53, R55: every address reads back what was last written to it and no write changes another byte; a
word lies low byte first and wraps at the top. The model's list of pairs is a faithful memory: two canonical
lists that read alike are the same list (the form is the model's own). -/
def Obligations.MemoryReadsAndWrites : Prop :=
  ∀ (s : State) (a : Word),
    (∀ v, StoresByte a v s (s.writeMem a v)) ∧
    (∀ v, StoresWord a v s (s.writeMem16 a v) ∧ (s.writeMem16 a v).readMem16 a = v) ∧
    s.readMem16 a = s.readMem (a + 1) ++ s.readMem a ∧
    ∀ t : State, s.wf = true → t.wf = true → SameMem s t → t.mem = s.mem

/-! ### Interrupts and the host (60_exceptions) -/

/-- R341, R342, R343, R340: an accepted request pushes the pc and goes to 8 * n; a woken halt ends; IE is kept,
or cleared under ACK_CLEARS_IE; no flag and no other register changes. An index above 7 is refused. -/
def Obligations.AcceptedInterrupt : Prop :=
  (∀ (n : Nat) (s : State), n ≤ 7 → Accepts s →
    ∃ t, requestInterrupt n s = .next t ∧
      t.pc = BitVec.ofNat 16 (8 * n) ∧ t.sp = s.sp - 2 ∧ StoresWord (s.sp - 2) s.pc s t ∧
      t.halted = false ∧ t.ie = !s.cfg.ackClearsIE ∧ t.flags = s.flags ∧ SameRegs s t ∧
      t.fault = s.fault ∧ t.ports = s.ports ∧ t.cfg = s.cfg ∧ t.draws = s.draws ∧ t.outLog = s.outLog) ∧
  ∀ (n : Nat) (s : State), 7 < n → requestInterrupt n s = .refused (.badVectorIndex n)

/-- R344, R341: a request made while IE is 0, of a state final under Terminal, or of a state faulted under
Fatal is dropped: it changes nothing, so nothing of it is left to deliver later. -/
def Obligations.DroppedInterrupt : Prop :=
  ∀ (n : Nat) (s : State), n ≤ 7 →
    s.ie = false ∨ (s.halted = true ∧ s.cfg.haltPolicy = .terminal) ∨
      (s.fault ≠ none ∧ s.cfg.unimplPolicy = .fatal) →
    requestInterrupt n s = .next s

/-- R342, R276: the delivery of an accepted request n equals RST n executed at the boundary, when it need not
wake a halt and does not clear IE. -/
def Obligations.InterruptActsAsRst : Prop :=
  ∀ (i : Instr) (n : BitVec 3) (s : State), (i, n) ∈ rstRows → Accepts s → s.halted = false →
    s.cfg.ackClearsIE = false →
    requestInterrupt n.toNat s = exec i { s with pc := s.pc - 1 }

/-- R346: two requests at one boundary. Without ACK_CLEARS_IE both are delivered, the second pushing the
first's vector; with it the second is dropped. -/
def Obligations.TwoRequestsAtOneBoundary : Prop :=
  ∀ (n m : Nat) (s : State), n ≤ 7 → m ≤ 7 → Accepts s →
    (s.cfg.ackClearsIE = false → ∃ t,
      runSchedule [.call (.requestInterrupt n), .call (.requestInterrupt m)] s = .next t ∧
      t.pc = BitVec.ofNat 16 (8 * m) ∧ t.sp = s.sp - 4 ∧
      t.readMem (s.sp - 3) ++ t.readMem (s.sp - 4) = BitVec.ofNat 16 (8 * n) ∧
      t.readMem (s.sp - 1) ++ t.readMem (s.sp - 2) = s.pc) ∧
    (s.cfg.ackClearsIE = true →
      runSchedule [.call (.requestInterrupt n), .call (.requestInterrupt m)] s =
        runSchedule [.call (.requestInterrupt n)] s)

/-- R355, D19: of the core's state a host call other than an interrupt request changes memory, in1 and in2 at
most, and each as it asks. -/
def Obligations.HostWrites : Prop :=
  ∀ s : State,
    (∀ v, hostCall (.setIn1 v) s = .next { s with ports := { s.ports with in1 := v } }) ∧
    (∀ v, hostCall (.setIn2 v) s = .next { s with ports := { s.ports with in2 := v } }) ∧
    ∀ (a : Word) (bytes : List Byte), bytes.length ≤ 65536 →
      ∃ t, hostCall (.writeMem a bytes) s = .next t ∧ hostCall (.loadRom a bytes) s = .next t ∧
        (∀ x, t.readMem x = (bytes[(x - a).toNat]?).getD (s.readMem x)) ∧ t = { s with mem := t.mem }

/-- R23: a pair reads as high register then low register, a write sets both, and the pairs share nothing. -/
def Obligations.RegisterPairs : Prop :=
  ∀ s : State,
    s.pair .bc = s.reg .b ++ s.reg .c ∧ s.pair .de = s.reg .d ++ s.reg .e ∧
    s.pair .hl = s.reg .h ++ s.reg .l ∧ s.pair .sp = s.sp ∧
    ∀ p v, SetsPair p v s (s.setPair p v) ∧ (s.setPair p v).pair p = v ∧
      ∀ q, q ≠ p → (s.setPair p v).pair q = s.pair q
end

