-- ==== Sys2Proof/Laws/State.lean ====
section
/-! SUPPORT. One lemma for each field under each named update of the state, true by `rfl`, so that no proof
unfolds a record update; then what the register, pair and memory reads see of those updates. -/

namespace Sys2Proof.Machine

variable (s : State)

/-! `State.advance` -/

@[simp] theorem State.advance_regs (n : Nat) : (s.advance n).regs = s.regs := rfl
@[simp] theorem State.advance_flags (n : Nat) : (s.advance n).flags = s.flags := rfl
@[simp] theorem State.advance_sp (n : Nat) : (s.advance n).sp = s.sp := rfl
@[simp] theorem State.advance_pc (n : Nat) : (s.advance n).pc = s.pc + BitVec.ofNat 16 n := rfl
@[simp] theorem State.advance_ie (n : Nat) : (s.advance n).ie = s.ie := rfl
@[simp] theorem State.advance_halted (n : Nat) : (s.advance n).halted = s.halted := rfl
@[simp] theorem State.advance_fault (n : Nat) : (s.advance n).fault = s.fault := rfl
@[simp] theorem State.advance_ports (n : Nat) : (s.advance n).ports = s.ports := rfl
@[simp] theorem State.advance_mem (n : Nat) : (s.advance n).mem = s.mem := rfl
@[simp] theorem State.advance_cfg (n : Nat) : (s.advance n).cfg = s.cfg := rfl
@[simp] theorem State.advance_draws (n : Nat) : (s.advance n).draws = s.draws := rfl
@[simp] theorem State.advance_outLog (n : Nat) : (s.advance n).outLog = s.outLog := rfl

/-! `State.setPc` -/

@[simp] theorem State.setPc_regs (v : Word) : (s.setPc v).regs = s.regs := rfl
@[simp] theorem State.setPc_flags (v : Word) : (s.setPc v).flags = s.flags := rfl
@[simp] theorem State.setPc_sp (v : Word) : (s.setPc v).sp = s.sp := rfl
@[simp] theorem State.setPc_pc (v : Word) : (s.setPc v).pc = v := rfl
@[simp] theorem State.setPc_ie (v : Word) : (s.setPc v).ie = s.ie := rfl
@[simp] theorem State.setPc_halted (v : Word) : (s.setPc v).halted = s.halted := rfl
@[simp] theorem State.setPc_fault (v : Word) : (s.setPc v).fault = s.fault := rfl
@[simp] theorem State.setPc_ports (v : Word) : (s.setPc v).ports = s.ports := rfl
@[simp] theorem State.setPc_mem (v : Word) : (s.setPc v).mem = s.mem := rfl
@[simp] theorem State.setPc_cfg (v : Word) : (s.setPc v).cfg = s.cfg := rfl
@[simp] theorem State.setPc_draws (v : Word) : (s.setPc v).draws = s.draws := rfl
@[simp] theorem State.setPc_outLog (v : Word) : (s.setPc v).outLog = s.outLog := rfl

/-! `State.setSp` -/

@[simp] theorem State.setSp_regs (v : Word) : (s.setSp v).regs = s.regs := rfl
@[simp] theorem State.setSp_flags (v : Word) : (s.setSp v).flags = s.flags := rfl
@[simp] theorem State.setSp_sp (v : Word) : (s.setSp v).sp = v := rfl
@[simp] theorem State.setSp_pc (v : Word) : (s.setSp v).pc = s.pc := rfl
@[simp] theorem State.setSp_ie (v : Word) : (s.setSp v).ie = s.ie := rfl
@[simp] theorem State.setSp_halted (v : Word) : (s.setSp v).halted = s.halted := rfl
@[simp] theorem State.setSp_fault (v : Word) : (s.setSp v).fault = s.fault := rfl
@[simp] theorem State.setSp_ports (v : Word) : (s.setSp v).ports = s.ports := rfl
@[simp] theorem State.setSp_mem (v : Word) : (s.setSp v).mem = s.mem := rfl
@[simp] theorem State.setSp_cfg (v : Word) : (s.setSp v).cfg = s.cfg := rfl
@[simp] theorem State.setSp_draws (v : Word) : (s.setSp v).draws = s.draws := rfl
@[simp] theorem State.setSp_outLog (v : Word) : (s.setSp v).outLog = s.outLog := rfl

/-! `State.setFlags` -/

@[simp] theorem State.setFlags_regs (f : Flags) : (s.setFlags f).regs = s.regs := rfl
@[simp] theorem State.setFlags_flags (f : Flags) : (s.setFlags f).flags = f := rfl
@[simp] theorem State.setFlags_sp (f : Flags) : (s.setFlags f).sp = s.sp := rfl
@[simp] theorem State.setFlags_pc (f : Flags) : (s.setFlags f).pc = s.pc := rfl
@[simp] theorem State.setFlags_ie (f : Flags) : (s.setFlags f).ie = s.ie := rfl
@[simp] theorem State.setFlags_halted (f : Flags) : (s.setFlags f).halted = s.halted := rfl
@[simp] theorem State.setFlags_fault (f : Flags) : (s.setFlags f).fault = s.fault := rfl
@[simp] theorem State.setFlags_ports (f : Flags) : (s.setFlags f).ports = s.ports := rfl
@[simp] theorem State.setFlags_mem (f : Flags) : (s.setFlags f).mem = s.mem := rfl
@[simp] theorem State.setFlags_cfg (f : Flags) : (s.setFlags f).cfg = s.cfg := rfl
@[simp] theorem State.setFlags_draws (f : Flags) : (s.setFlags f).draws = s.draws := rfl
@[simp] theorem State.setFlags_outLog (f : Flags) : (s.setFlags f).outLog = s.outLog := rfl

/-! `State.setCy` -/

@[simp] theorem State.setCy_regs (c : Bool) : (s.setCy c).regs = s.regs := rfl
@[simp] theorem State.setCy_flags (c : Bool) : (s.setCy c).flags = { s.flags with cy := c } := rfl
@[simp] theorem State.setCy_sp (c : Bool) : (s.setCy c).sp = s.sp := rfl
@[simp] theorem State.setCy_pc (c : Bool) : (s.setCy c).pc = s.pc := rfl
@[simp] theorem State.setCy_ie (c : Bool) : (s.setCy c).ie = s.ie := rfl
@[simp] theorem State.setCy_halted (c : Bool) : (s.setCy c).halted = s.halted := rfl
@[simp] theorem State.setCy_fault (c : Bool) : (s.setCy c).fault = s.fault := rfl
@[simp] theorem State.setCy_ports (c : Bool) : (s.setCy c).ports = s.ports := rfl
@[simp] theorem State.setCy_mem (c : Bool) : (s.setCy c).mem = s.mem := rfl
@[simp] theorem State.setCy_cfg (c : Bool) : (s.setCy c).cfg = s.cfg := rfl
@[simp] theorem State.setCy_draws (c : Bool) : (s.setCy c).draws = s.draws := rfl
@[simp] theorem State.setCy_outLog (c : Bool) : (s.setCy c).outLog = s.outLog := rfl

/-! `State.setReg` -/

@[simp] theorem State.setReg_regs (r : Reg) (v : Byte) : (s.setReg r v).regs = s.regs.set r v := rfl
@[simp] theorem State.setReg_flags (r : Reg) (v : Byte) : (s.setReg r v).flags = s.flags := rfl
@[simp] theorem State.setReg_sp (r : Reg) (v : Byte) : (s.setReg r v).sp = s.sp := rfl
@[simp] theorem State.setReg_pc (r : Reg) (v : Byte) : (s.setReg r v).pc = s.pc := rfl
@[simp] theorem State.setReg_ie (r : Reg) (v : Byte) : (s.setReg r v).ie = s.ie := rfl
@[simp] theorem State.setReg_halted (r : Reg) (v : Byte) : (s.setReg r v).halted = s.halted := rfl
@[simp] theorem State.setReg_fault (r : Reg) (v : Byte) : (s.setReg r v).fault = s.fault := rfl
@[simp] theorem State.setReg_ports (r : Reg) (v : Byte) : (s.setReg r v).ports = s.ports := rfl
@[simp] theorem State.setReg_mem (r : Reg) (v : Byte) : (s.setReg r v).mem = s.mem := rfl
@[simp] theorem State.setReg_cfg (r : Reg) (v : Byte) : (s.setReg r v).cfg = s.cfg := rfl
@[simp] theorem State.setReg_draws (r : Reg) (v : Byte) : (s.setReg r v).draws = s.draws := rfl
@[simp] theorem State.setReg_outLog (r : Reg) (v : Byte) : (s.setReg r v).outLog = s.outLog := rfl

/-! `State.writeMem` -/

@[simp] theorem State.writeMem_regs (a : Word) (v : Byte) : (s.writeMem a v).regs = s.regs := rfl
@[simp] theorem State.writeMem_flags (a : Word) (v : Byte) : (s.writeMem a v).flags = s.flags := rfl
@[simp] theorem State.writeMem_sp (a : Word) (v : Byte) : (s.writeMem a v).sp = s.sp := rfl
@[simp] theorem State.writeMem_pc (a : Word) (v : Byte) : (s.writeMem a v).pc = s.pc := rfl
@[simp] theorem State.writeMem_ie (a : Word) (v : Byte) : (s.writeMem a v).ie = s.ie := rfl
@[simp] theorem State.writeMem_halted (a : Word) (v : Byte) : (s.writeMem a v).halted = s.halted := rfl
@[simp] theorem State.writeMem_fault (a : Word) (v : Byte) : (s.writeMem a v).fault = s.fault := rfl
@[simp] theorem State.writeMem_ports (a : Word) (v : Byte) : (s.writeMem a v).ports = s.ports := rfl
@[simp] theorem State.writeMem_mem (a : Word) (v : Byte) : (s.writeMem a v).mem = Memory.write s.mem a.toNat v := rfl
@[simp] theorem State.writeMem_cfg (a : Word) (v : Byte) : (s.writeMem a v).cfg = s.cfg := rfl
@[simp] theorem State.writeMem_draws (a : Word) (v : Byte) : (s.writeMem a v).draws = s.draws := rfl
@[simp] theorem State.writeMem_outLog (a : Word) (v : Byte) : (s.writeMem a v).outLog = s.outLog := rfl

/-! `State.signalHalt` -/

@[simp] theorem State.signalHalt_regs : (s.signalHalt).regs = s.regs := rfl
@[simp] theorem State.signalHalt_flags : (s.signalHalt).flags = s.flags := rfl
@[simp] theorem State.signalHalt_sp : (s.signalHalt).sp = s.sp := rfl
@[simp] theorem State.signalHalt_pc : (s.signalHalt).pc = s.pc := rfl
@[simp] theorem State.signalHalt_ie : (s.signalHalt).ie = s.ie := rfl
@[simp] theorem State.signalHalt_halted : (s.signalHalt).halted = true := rfl
@[simp] theorem State.signalHalt_fault : (s.signalHalt).fault = s.fault := rfl
@[simp] theorem State.signalHalt_ports : (s.signalHalt).ports = s.ports := rfl
@[simp] theorem State.signalHalt_mem : (s.signalHalt).mem = s.mem := rfl
@[simp] theorem State.signalHalt_cfg : (s.signalHalt).cfg = s.cfg := rfl
@[simp] theorem State.signalHalt_draws : (s.signalHalt).draws = s.draws := rfl
@[simp] theorem State.signalHalt_outLog : (s.signalHalt).outLog = s.outLog := rfl

/-! `State.setPair` -/

@[simp] theorem State.setPair_flags (p : Pair) (v : Word) : (s.setPair p v).flags = s.flags := by cases p <;> rfl
@[simp] theorem State.setPair_pc (p : Pair) (v : Word) : (s.setPair p v).pc = s.pc := by cases p <;> rfl
@[simp] theorem State.setPair_ie (p : Pair) (v : Word) : (s.setPair p v).ie = s.ie := by cases p <;> rfl
@[simp] theorem State.setPair_halted (p : Pair) (v : Word) : (s.setPair p v).halted = s.halted := by cases p <;> rfl
@[simp] theorem State.setPair_fault (p : Pair) (v : Word) : (s.setPair p v).fault = s.fault := by cases p <;> rfl
@[simp] theorem State.setPair_ports (p : Pair) (v : Word) : (s.setPair p v).ports = s.ports := by cases p <;> rfl
@[simp] theorem State.setPair_mem (p : Pair) (v : Word) : (s.setPair p v).mem = s.mem := by cases p <;> rfl
@[simp] theorem State.setPair_cfg (p : Pair) (v : Word) : (s.setPair p v).cfg = s.cfg := by cases p <;> rfl
@[simp] theorem State.setPair_draws (p : Pair) (v : Word) : (s.setPair p v).draws = s.draws := by cases p <;> rfl
@[simp] theorem State.setPair_outLog (p : Pair) (v : Word) : (s.setPair p v).outLog = s.outLog := by cases p <;> rfl

/-! Register reads -/

@[simp] theorem Regs.get_set (g : Regs) (r q : Reg) (v : Byte) :
    (g.set r v).get q = if q = r then v else g.get q := by
  cases r <;> cases q <;> rfl

@[simp] theorem State.reg_setReg (r q : Reg) (v : Byte) :
    (s.setReg r v).reg q = if q = r then v else s.reg q := Regs.get_set s.regs r q v

@[simp] theorem State.reg_advance (n : Nat) (q : Reg) : (s.advance n).reg q = s.reg q := rfl
@[simp] theorem State.reg_setPc (v : Word) (q : Reg) : (s.setPc v).reg q = s.reg q := rfl
@[simp] theorem State.reg_setSp (v : Word) (q : Reg) : (s.setSp v).reg q = s.reg q := rfl
@[simp] theorem State.reg_setFlags (f : Flags) (q : Reg) : (s.setFlags f).reg q = s.reg q := rfl
@[simp] theorem State.reg_setCy (c : Bool) (q : Reg) : (s.setCy c).reg q = s.reg q := rfl
@[simp] theorem State.reg_writeMem (a : Word) (v : Byte) (q : Reg) : (s.writeMem a v).reg q = s.reg q := rfl
@[simp] theorem State.reg_signalHalt (q : Reg) : (s.signalHalt).reg q = s.reg q := rfl

/-! Memory reads -/

@[simp] theorem State.readMem_advance (n : Nat) (x : Word) : (s.advance n).readMem x = s.readMem x := rfl
@[simp] theorem State.readMem_setPc (v : Word) (x : Word) : (s.setPc v).readMem x = s.readMem x := rfl
@[simp] theorem State.readMem_setSp (v : Word) (x : Word) : (s.setSp v).readMem x = s.readMem x := rfl
@[simp] theorem State.readMem_setFlags (f : Flags) (x : Word) : (s.setFlags f).readMem x = s.readMem x := rfl
@[simp] theorem State.readMem_setCy (c : Bool) (x : Word) : (s.setCy c).readMem x = s.readMem x := rfl
@[simp] theorem State.readMem_setReg (r : Reg) (v : Byte) (x : Word) : (s.setReg r v).readMem x = s.readMem x := rfl
@[simp] theorem State.readMem_signalHalt (x : Word) : (s.signalHalt).readMem x = s.readMem x := rfl
@[simp] theorem State.readMem_setPair (p : Pair) (v x : Word) :
    (s.setPair p v).readMem x = s.readMem x := by
  cases p <;> rfl

/-! Pair reads -/

@[simp] theorem State.pair_advance (n : Nat) (p : Pair) : (s.advance n).pair p = s.pair p := by cases p <;> rfl
@[simp] theorem State.pair_setPc (v : Word) (p : Pair) : (s.setPc v).pair p = s.pair p := by cases p <;> rfl
@[simp] theorem State.pair_setFlags (f : Flags) (p : Pair) : (s.setFlags f).pair p = s.pair p := by cases p <;> rfl
@[simp] theorem State.pair_setCy (c : Bool) (p : Pair) : (s.setCy c).pair p = s.pair p := by cases p <;> rfl
@[simp] theorem State.pair_writeMem (a : Word) (v : Byte) (p : Pair) : (s.writeMem a v).pair p = s.pair p := by cases p <;> rfl
@[simp] theorem State.pair_signalHalt (p : Pair) : (s.signalHalt).pair p = s.pair p := by cases p <;> rfl

/-- The high byte then the low byte of a word are the word (R23). -/
theorem word_of_bytes (v : Word) : v.extractLsb' 8 8 ++ v.extractLsb' 0 8 = v := by
  apply BitVec.eq_of_getLsbD_eq
  intro i hi
  rw [BitVec.getLsbD_append]
  by_cases h : i < 8
  · simp [h]
  · have h2 : i - 8 < 8 := by omega
    have h3 : 8 + (i - 8) = i := by omega
    simp [h, h2, h3]

/-- The high byte of two bytes put together (R9). -/
@[simp] theorem high_of_append (a b : Byte) : (a ++ b : Word).extractLsb' 8 8 = a := by
  apply BitVec.eq_of_getLsbD_eq
  intro i hi
  rw [BitVec.getLsbD_extractLsb', BitVec.getLsbD_append]
  simp [hi]

/-- The low byte of two bytes put together (R9). -/
@[simp] theorem low_of_append (a b : Byte) : (a ++ b : Word).extractLsb' 0 8 = b := by
  apply BitVec.eq_of_getLsbD_eq
  intro i hi
  rw [BitVec.getLsbD_extractLsb', BitVec.getLsbD_append]
  simp [hi]

/-- `{a, b}` is the number `a * 256 + b` (R9). -/
theorem toNat_append_bytes (a b : Byte) : (a ++ b : Word).toNat = a.toNat * 256 + b.toNat := by
  have hb := b.isLt
  rw [BitVec.toNat_append, ← Nat.shiftLeft_add_eq_or_of_lt hb, Nat.shiftLeft_eq]

/-- A write to a pair other than SP keeps sp. -/
theorem State.setPair_sp_of_ne {p : Pair} (v : Word) (h : p ≠ .sp) : (s.setPair p v).sp = s.sp := by
  cases p <;> first | rfl | exact absurd rfl h

/-- A write to SP keeps the registers. -/
@[simp] theorem State.setPair_regs_of_sp (v : Word) : (s.setPair .sp v).regs = s.regs := rfl

/-- A pair reads back what was written to it (R23). -/
@[simp] theorem State.pair_setPair_same (p : Pair) (v : Word) : (s.setPair p v).pair p = v := by
  cases p
  case sp => rfl
  all_goals exact word_of_bytes v

/-- A pair is not changed by a write to another (R23: the pairs share no storage). -/
theorem State.pair_setPair_ne (p q : Pair) (v : Word) (h : q ≠ p) :
    (s.setPair p v).pair q = s.pair q := by
  cases p <;> cases q <;> first | rfl | exact absurd rfl h

end Sys2Proof.Machine
end

