-- ==== Sys2Proof/Laws/Memory.lean ====
section
/-! SUPPORT. The laws of memory: a read sees the last write to its address and no other (R58, R62), every
operation keeps the canonical form, and memories in that form that read alike are the same data. -/

namespace Sys2Proof.Machine

theorem Memory.read_insert (m : Memory) (a x : Nat) (v : Byte) :
    Memory.read (Memory.insert m a v) x = if x = a then v else Memory.read m x := by
  induction m with
  | nil => simp [Memory.insert, Memory.read, eq_comm]
  | cons cell rest ih =>
    obtain ⟨k, y⟩ := cell
    simp only [Memory.insert]
    split_ifs <;> simp only [Memory.read, ih] <;> split_ifs <;> first | rfl | omega

theorem Memory.read_erase (m : Memory) (a x : Nat) :
    Memory.read (m.filter fun cell => cell.1 != a) x =
      if x = a then Memory.unlisted else Memory.read m x := by
  induction m with
  | nil => simp [Memory.read]
  | cons cell rest ih =>
    obtain ⟨k, y⟩ := cell
    by_cases hk : k = a
    · simp only [List.filter_cons, hk, bne_self_eq_false, Bool.false_eq_true, if_false, ih, Memory.read]
      split_ifs <;> first | rfl | omega
    · have hk' : (k != a) = true := by simp [hk]
      simp only [List.filter_cons, hk', if_true, Memory.read, ih]
      split_ifs <;> first | rfl | omega

/-- A read after a write: the value written at its address, the byte before elsewhere. -/
theorem Memory.read_write (m : Memory) (a x : Nat) (v : Byte) :
    Memory.read (Memory.write m a v) x = if x = a then v else Memory.read m x := by
  unfold Memory.write
  split_ifs with hv hx hx <;> simp [Memory.read_erase, Memory.read_insert, hx, hv]

@[simp] theorem State.readMem_writeMem (s : State) (a x : Word) (v : Byte) :
    (s.writeMem a v).readMem x = if x = a then v else s.readMem x := by
  simp [State.readMem, Memory.read_write, BitVec.toNat_inj]

/-! ### The canonical form -/

theorem Memory.wfFrom_mono {m : Memory} {lo lo' : Nat} (h : Memory.wfFrom m lo) (hle : lo' ≤ lo) :
    Memory.wfFrom m lo' := by
  cases m with
  | nil => rfl
  | cons cell rest =>
    simp only [Memory.wfFrom, Bool.and_eq_true, decide_eq_true_eq] at h ⊢
    exact ⟨⟨⟨by omega, h.1.1.2⟩, h.1.2⟩, h.2⟩

theorem Memory.wfFrom_insert {m : Memory} {lo a : Nat} {v : Byte} (h : Memory.wfFrom m lo)
    (hlo : lo ≤ a) (ha : a < 65536) (hv : v ≠ Memory.unlisted) :
    Memory.wfFrom (Memory.insert m a v) lo := by
  induction m generalizing lo with
  | nil => simp [Memory.insert, Memory.wfFrom, hlo, ha, hv]
  | cons cell rest ih =>
    obtain ⟨k, y⟩ := cell
    simp only [Memory.wfFrom, Bool.and_eq_true, decide_eq_true_eq] at h
    simp only [Memory.insert]
    split_ifs with h1 h2
    · simpa [Memory.wfFrom, h.1.1.1, h.1.1.2, h.1.2] using ih h.2 (by omega)
    · subst h2
      simpa [Memory.wfFrom, hlo, ha, hv] using h.2
    · have hk : a < k := by omega
      simpa [Memory.wfFrom, hlo, ha, hv, h.1.1.2, h.1.2, Nat.succ_le_of_lt hk] using h.2

theorem Memory.wfFrom_erase {m : Memory} {lo : Nat} (a : Nat) (h : Memory.wfFrom m lo) :
    Memory.wfFrom (m.filter fun cell => cell.1 != a) lo := by
  induction m generalizing lo with
  | nil => rfl
  | cons cell rest ih =>
    obtain ⟨k, y⟩ := cell
    simp only [Memory.wfFrom, Bool.and_eq_true, decide_eq_true_eq] at h
    by_cases hk : k = a
    · simpa [List.filter_cons, hk] using ih (Memory.wfFrom_mono h.2 (by omega))
    · simpa [List.filter_cons, hk, Memory.wfFrom, h.1.1.1, h.1.1.2, h.1.2] using ih h.2

theorem Memory.wf_write {m : Memory} {a : Nat} (v : Byte) (h : Memory.wf m) (ha : a < 65536) :
    Memory.wf (Memory.write m a v) := by
  unfold Memory.write Memory.wf
  split_ifs with hv
  · exact Memory.wfFrom_erase a h
  · exact Memory.wfFrom_insert h (Nat.zero_le a) ha hv

theorem State.wf_writeMem {s : State} (a : Word) (v : Byte) (h : s.mem.wf) : (s.writeMem a v).mem.wf :=
  Memory.wf_write v h a.isLt

theorem State.wf_writeBytes {s : State} (a : Word) (bytes : List Byte) (h : s.mem.wf) :
    (s.writeBytes a bytes).mem.wf := by
  induction bytes generalizing s a with
  | nil => exact h
  | cons v rest ih => exact ih (a + 1) (State.wf_writeMem a v h)

theorem Memory.read_of_lt {m : Memory} {lo a : Nat} (h : Memory.wfFrom m lo) (ha : a < lo) :
    Memory.read m a = Memory.unlisted := by
  induction m generalizing lo with
  | nil => rfl
  | cons cell rest ih =>
    obtain ⟨k, y⟩ := cell
    simp only [Memory.wfFrom, Bool.and_eq_true, decide_eq_true_eq] at h
    have hk : k ≠ a := by omega
    simpa [Memory.read, hk] using ih h.2 (by omega)

theorem Memory.eq_of_read {m n : Memory} {lo : Nat} (hm : Memory.wfFrom m lo) (hn : Memory.wfFrom n lo)
    (h : ∀ a, Memory.read m a = Memory.read n a) : m = n := by
  induction m generalizing n lo with
  | nil =>
    cases n with
    | nil => rfl
    | cons cell rest =>
      obtain ⟨k, y⟩ := cell
      simp only [Memory.wfFrom, Bool.and_eq_true, decide_eq_true_eq] at hn
      exact absurd (by simpa [Memory.read] using (h k).symm) hn.1.2
  | cons cell rest ih =>
    obtain ⟨k, y⟩ := cell
    simp only [Memory.wfFrom, Bool.and_eq_true, decide_eq_true_eq] at hm
    have hk := h k
    simp only [Memory.read, if_true] at hk
    cases n with
    | nil => exact absurd (by simpa [Memory.read] using hk) hm.1.2
    | cons cell' rest' =>
      obtain ⟨k', y'⟩ := cell'
      simp only [Memory.wfFrom, Bool.and_eq_true, decide_eq_true_eq] at hn
      have hk' := h k'
      simp only [Memory.read, if_true] at hk hk'
      have hkk : k = k' := by
        rcases Nat.lt_trichotomy k k' with hlt | heq | hgt
        · rw [if_neg (by omega), Memory.read_of_lt hn.2 (by omega)] at hk
          exact absurd hk hm.1.2
        · exact heq
        · rw [if_neg (by omega), Memory.read_of_lt hm.2 (by omega)] at hk'
          exact absurd hk'.symm hn.1.2
      subst hkk
      rw [if_pos rfl] at hk
      subst hk
      congr 1
      refine ih hm.2 hn.2 fun a => ?_
      rcases Nat.lt_or_ge a (k + 1) with ha | ha
      · rw [Memory.read_of_lt hm.2 ha, Memory.read_of_lt hn.2 ha]
      · have ha' : k ≠ a := by omega
        simpa [Memory.read, ha'] using h a

/-- Memories in canonical form that hold the same bytes are the same data. -/
theorem Memory.ext_of_wf {m n : Memory} (hm : m.wf) (hn : n.wf)
    (h : ∀ a, Memory.read m a = Memory.read n a) : m = n :=
  Memory.eq_of_read hm hn h

theorem Memory.read_of_ge {m : Memory} {lo a : Nat} (h : Memory.wfFrom m lo) (ha : 65536 ≤ a) :
    Memory.read m a = Memory.unlisted := by
  induction m generalizing lo with
  | nil => rfl
  | cons cell rest ih =>
    obtain ⟨k, y⟩ := cell
    simp only [Memory.wfFrom, Bool.and_eq_true, decide_eq_true_eq] at h
    have hk : k ≠ a := by omega
    simpa [Memory.read, hk] using ih h.2

/-- The same of states: memories in canonical form that read alike at every address are the same data. -/
theorem State.mem_ext_of_wf {s t : State} (hs : s.mem.wf) (ht : t.mem.wf)
    (h : ∀ a, s.readMem a = t.readMem a) : s.mem = t.mem := by
  refine Memory.ext_of_wf hs ht fun a => ?_
  rcases Nat.lt_or_ge a 65536 with ha | ha
  · have := h (BitVec.ofNat 16 a)
    rwa [State.readMem, State.readMem, BitVec.toNat_ofNat, Nat.mod_eq_of_lt ha] at this
  · rw [Memory.read_of_ge hs ha, Memory.read_of_ge ht ha]

end Sys2Proof.Machine
end

