-- ==== Sys2Proof/Laws/Ops.lean ====
section
/-! SUPPORT. What the shared operations over the stack, the operands, the vectors and the outcomes do: each
operation is unfolded here once. -/

namespace Sys2Proof.Machine

variable (s : State)

/-! ### push16 and pop16 (R10) -/

theorem Word.sub_one_sub_one (a : Word) : a - 1#16 - 1#16 = a - 2#16 := by
  rw [BitVec.sub_sub]; rfl

theorem Word.sub_two_add_one (a : Word) : a - 2#16 + 1#16 = a - 1#16 := by
  rw [← Word.sub_one_sub_one, BitVec.sub_add_cancel]

theorem Word.sub_one_ne_sub_two (a : Word) : a - 1#16 ≠ a - 2#16 := by
  intro e
  have := congrArg (fun x => a - x) e
  simp at this

theorem Word.add_one_ne (a : Word) : a + 1#16 ≠ a := by
  intro e
  have := congrArg (fun x => x - a) e
  simp at this

@[simp] theorem State.push16_regs (v : Word) : (s.push16 v).regs = s.regs := rfl
@[simp] theorem State.push16_flags (v : Word) : (s.push16 v).flags = s.flags := rfl
@[simp] theorem State.push16_pc (v : Word) : (s.push16 v).pc = s.pc := rfl
@[simp] theorem State.push16_ie (v : Word) : (s.push16 v).ie = s.ie := rfl
@[simp] theorem State.push16_halted (v : Word) : (s.push16 v).halted = s.halted := rfl
@[simp] theorem State.push16_fault (v : Word) : (s.push16 v).fault = s.fault := rfl
@[simp] theorem State.push16_ports (v : Word) : (s.push16 v).ports = s.ports := rfl
@[simp] theorem State.push16_cfg (v : Word) : (s.push16 v).cfg = s.cfg := rfl
@[simp] theorem State.push16_draws (v : Word) : (s.push16 v).draws = s.draws := rfl
@[simp] theorem State.push16_outLog (v : Word) : (s.push16 v).outLog = s.outLog := rfl

/-- A push leaves sp two lower (R25). -/
@[simp] theorem State.push16_sp (v : Word) : (s.push16 v).sp = s.sp - 2 := Word.sub_one_sub_one s.sp

/-- A push stores the high byte at `sp - 1` and the low byte at `sp - 2`, and no other byte (R53). -/
@[simp] theorem State.readMem_push16 (v x : Word) :
    (s.push16 v).readMem x =
      if x = s.sp - 2 then v.extractLsb' 0 8
      else if x = s.sp - 1 then v.extractLsb' 8 8
      else s.readMem x := by
  simp [State.push16, Word.sub_one_sub_one]

theorem State.wf_push16 {s : State} (v : Word) (h : s.mem.wf) : (s.push16 v).mem.wf :=
  State.wf_writeMem _ _ (State.wf_writeMem (s := s.setSp (s.sp - 1)) _ _ h)

@[simp] theorem State.reg_push16 (v : Word) (q : Reg) : (s.push16 v).reg q = s.reg q := rfl

@[simp] theorem State.popSp_regs : s.popSp.regs = s.regs := rfl
@[simp] theorem State.popSp_flags : s.popSp.flags = s.flags := rfl
@[simp] theorem State.popSp_pc : s.popSp.pc = s.pc := rfl
@[simp] theorem State.popSp_ie : s.popSp.ie = s.ie := rfl
@[simp] theorem State.popSp_halted : s.popSp.halted = s.halted := rfl
@[simp] theorem State.popSp_fault : s.popSp.fault = s.fault := rfl
@[simp] theorem State.popSp_ports : s.popSp.ports = s.ports := rfl
@[simp] theorem State.popSp_mem : s.popSp.mem = s.mem := rfl
@[simp] theorem State.popSp_cfg : s.popSp.cfg = s.cfg := rfl
@[simp] theorem State.popSp_draws : s.popSp.draws = s.draws := rfl
@[simp] theorem State.popSp_outLog : s.popSp.outLog = s.outLog := rfl
@[simp] theorem State.popSp_sp : s.popSp.sp = s.sp + 2 := rfl
@[simp] theorem State.reg_popSp (q : Reg) : s.popSp.reg q = s.reg q := rfl
@[simp] theorem State.readMem_popSp (x : Word) : s.popSp.readMem x = s.readMem x := rfl

/-- What is popped is what was pushed (the source's stack round trip, R252). -/
theorem State.popped_push16 (v : Word) : (s.push16 v).popped = v := by
  simp [State.popped, State.readMem16, Word.sub_two_add_one, word_of_bytes]

/-! ### 16-bit memory accesses (R53) -/

@[simp] theorem State.writeMem16_regs (a v : Word) : (s.writeMem16 a v).regs = s.regs := rfl
@[simp] theorem State.writeMem16_flags (a v : Word) : (s.writeMem16 a v).flags = s.flags := rfl
@[simp] theorem State.writeMem16_sp (a v : Word) : (s.writeMem16 a v).sp = s.sp := rfl
@[simp] theorem State.writeMem16_pc (a v : Word) : (s.writeMem16 a v).pc = s.pc := rfl
@[simp] theorem State.writeMem16_ie (a v : Word) : (s.writeMem16 a v).ie = s.ie := rfl
@[simp] theorem State.writeMem16_halted (a v : Word) : (s.writeMem16 a v).halted = s.halted := rfl
@[simp] theorem State.writeMem16_fault (a v : Word) : (s.writeMem16 a v).fault = s.fault := rfl
@[simp] theorem State.writeMem16_ports (a v : Word) : (s.writeMem16 a v).ports = s.ports := rfl
@[simp] theorem State.writeMem16_cfg (a v : Word) : (s.writeMem16 a v).cfg = s.cfg := rfl
@[simp] theorem State.writeMem16_draws (a v : Word) : (s.writeMem16 a v).draws = s.draws := rfl
@[simp] theorem State.writeMem16_outLog (a v : Word) : (s.writeMem16 a v).outLog = s.outLog := rfl

@[simp] theorem State.readMem_writeMem16 (a v x : Word) :
    (s.writeMem16 a v).readMem x =
      if x = a + 1 then v.extractLsb' 8 8 else if x = a then v.extractLsb' 0 8 else s.readMem x := by
  simp [State.writeMem16]

theorem State.wf_writeMem16 {s : State} (a v : Word) (h : s.mem.wf) : (s.writeMem16 a v).mem.wf :=
  State.wf_writeMem _ _ (State.wf_writeMem _ _ h)

/-! ### The operand of a DDD field (R81, R92) -/

@[simp] theorem State.writeLoc_flags (o : Loc) (v : Byte) : (s.writeLoc o v).flags = s.flags := by cases o <;> rfl
@[simp] theorem State.writeLoc_sp (o : Loc) (v : Byte) : (s.writeLoc o v).sp = s.sp := by cases o <;> rfl
@[simp] theorem State.writeLoc_pc (o : Loc) (v : Byte) : (s.writeLoc o v).pc = s.pc := by cases o <;> rfl
@[simp] theorem State.writeLoc_ie (o : Loc) (v : Byte) : (s.writeLoc o v).ie = s.ie := by cases o <;> rfl
@[simp] theorem State.writeLoc_halted (o : Loc) (v : Byte) : (s.writeLoc o v).halted = s.halted := by cases o <;> rfl
@[simp] theorem State.writeLoc_fault (o : Loc) (v : Byte) : (s.writeLoc o v).fault = s.fault := by cases o <;> rfl
@[simp] theorem State.writeLoc_ports (o : Loc) (v : Byte) : (s.writeLoc o v).ports = s.ports := by cases o <;> rfl
@[simp] theorem State.writeLoc_cfg (o : Loc) (v : Byte) : (s.writeLoc o v).cfg = s.cfg := by cases o <;> rfl
@[simp] theorem State.writeLoc_draws (o : Loc) (v : Byte) : (s.writeLoc o v).draws = s.draws := by cases o <;> rfl
@[simp] theorem State.writeLoc_outLog (o : Loc) (v : Byte) : (s.writeLoc o v).outLog = s.outLog := by cases o <;> rfl

theorem State.wf_writeLoc {s : State} (o : Loc) (v : Byte) (h : s.mem.wf) : (s.writeLoc o v).mem.wf := by
  cases o with
  | reg r => exact h
  | m => exact State.wf_writeMem _ _ h

/-! ### The entries and the outcomes -/

/-- Every vector is eight times its index (R60). -/
theorem vectorAddr_toNat (n : BitVec 3) : (vectorAddr n).toNat = 8 * n.toNat := by
  revert n; decide

@[simp] theorem State.enterVector_regs (n : BitVec 3) : (s.enterVector n).regs = s.regs := rfl
@[simp] theorem State.enterVector_flags (n : BitVec 3) : (s.enterVector n).flags = s.flags := rfl
@[simp] theorem State.enterVector_ie (n : BitVec 3) : (s.enterVector n).ie = s.ie := rfl
@[simp] theorem State.enterVector_halted (n : BitVec 3) : (s.enterVector n).halted = s.halted := rfl
@[simp] theorem State.enterVector_fault (n : BitVec 3) : (s.enterVector n).fault = s.fault := rfl
@[simp] theorem State.enterVector_ports (n : BitVec 3) : (s.enterVector n).ports = s.ports := rfl
@[simp] theorem State.enterVector_cfg (n : BitVec 3) : (s.enterVector n).cfg = s.cfg := rfl
@[simp] theorem State.enterVector_draws (n : BitVec 3) : (s.enterVector n).draws = s.draws := rfl
@[simp] theorem State.enterVector_outLog (n : BitVec 3) : (s.enterVector n).outLog = s.outLog := rfl
@[simp] theorem State.enterVector_pc (n : BitVec 3) : (s.enterVector n).pc = vectorAddr n := rfl
@[simp] theorem State.enterVector_sp (n : BitVec 3) : (s.enterVector n).sp = s.sp - 2 := s.push16_sp s.pc
@[simp] theorem State.reg_enterVector (n : BitVec 3) (q : Reg) : (s.enterVector n).reg q = s.reg q := rfl

@[simp] theorem State.readMem_enterVector (n : BitVec 3) (x : Word) :
    (s.enterVector n).readMem x = (s.push16 s.pc).readMem x := rfl

theorem State.wf_enterVector {s : State} (n : BitVec 3) (h : s.mem.wf) : (s.enterVector n).mem.wf :=
  State.wf_push16 s.pc h

@[simp] theorem State.returnPop_regs : s.returnPop.regs = s.regs := rfl
@[simp] theorem State.returnPop_flags : s.returnPop.flags = s.flags := rfl
@[simp] theorem State.returnPop_ie : s.returnPop.ie = s.ie := rfl
@[simp] theorem State.returnPop_halted : s.returnPop.halted = s.halted := rfl
@[simp] theorem State.returnPop_fault : s.returnPop.fault = s.fault := rfl
@[simp] theorem State.returnPop_ports : s.returnPop.ports = s.ports := rfl
@[simp] theorem State.returnPop_mem : s.returnPop.mem = s.mem := rfl
@[simp] theorem State.returnPop_cfg : s.returnPop.cfg = s.cfg := rfl
@[simp] theorem State.returnPop_draws : s.returnPop.draws = s.draws := rfl
@[simp] theorem State.returnPop_outLog : s.returnPop.outLog = s.outLog := rfl
@[simp] theorem State.returnPop_pc : s.returnPop.pc = s.popped := rfl
@[simp] theorem State.returnPop_sp : s.returnPop.sp = s.sp + 2 := rfl
@[simp] theorem State.reg_returnPop (q : Reg) : s.returnPop.reg q = s.reg q := rfl
@[simp] theorem State.readMem_returnPop (x : Word) : s.returnPop.readMem x = s.readMem x := rfl

@[simp] theorem State.raiseUnimplemented_regs (op : Byte) : (s.raiseUnimplemented op).regs = s.regs := rfl
@[simp] theorem State.raiseUnimplemented_flags (op : Byte) : (s.raiseUnimplemented op).flags = s.flags := rfl
@[simp] theorem State.raiseUnimplemented_sp (op : Byte) : (s.raiseUnimplemented op).sp = s.sp := rfl
@[simp] theorem State.raiseUnimplemented_ie (op : Byte) : (s.raiseUnimplemented op).ie = s.ie := rfl
@[simp] theorem State.raiseUnimplemented_halted (op : Byte) : (s.raiseUnimplemented op).halted = s.halted := rfl
@[simp] theorem State.raiseUnimplemented_ports (op : Byte) : (s.raiseUnimplemented op).ports = s.ports := rfl
@[simp] theorem State.raiseUnimplemented_mem (op : Byte) : (s.raiseUnimplemented op).mem = s.mem := rfl
@[simp] theorem State.raiseUnimplemented_cfg (op : Byte) : (s.raiseUnimplemented op).cfg = s.cfg := rfl
@[simp] theorem State.raiseUnimplemented_draws (op : Byte) : (s.raiseUnimplemented op).draws = s.draws := rfl
@[simp] theorem State.raiseUnimplemented_outLog (op : Byte) : (s.raiseUnimplemented op).outLog = s.outLog := rfl
@[simp] theorem State.raiseUnimplemented_pc (op : Byte) : (s.raiseUnimplemented op).pc = s.pc + 1 := rfl

/-- A fault once recorded stays the record (R330, R332). -/
theorem State.raiseUnimplemented_fault_some {s : State} (op : Byte) {f : FaultRecord} (h : s.fault = some f) :
    (s.raiseUnimplemented op).fault = some f := by
  simp [State.raiseUnimplemented, h]

theorem State.raiseUnimplemented_fault_none {s : State} (op : Byte) (h : s.fault = none) :
    (s.raiseUnimplemented op).fault = some { addr := s.pc, opcode := op } := by
  simp [State.raiseUnimplemented, h]

end Sys2Proof.Machine
end

