-- ==== Sys2Proof/Laws/Families.lean ====
section
/-! SUPPORT. What each shared meaning can do, said once: it always answers a next state, and that state keeps
memory's canonical form, the parameters and a fault already recorded. Invariants over instructions cite these. -/

namespace Sys2Proof.Machine

/-- `r` is a next state of `s` that keeps memory's form, the parameters and a recorded fault. -/
def Steady (s : State) (r : Result) : Prop :=
  ∃ t, r = .next t ∧ (s.mem.wf → t.mem.wf) ∧ t.cfg = s.cfg ∧ ∀ f, s.fault = some f → t.fault = some f

variable {s : State}

/-- The shape most meanings have: the parameters and the fault record are not touched. -/
theorem Steady.intro {t : State} (hm : s.mem.wf → t.mem.wf) (hc : t.cfg = s.cfg) (hf : t.fault = s.fault) :
    Steady s (.next t) :=
  ⟨t, rfl, hm, hc, fun _ h => hf.trans h⟩

theorem doNop_steady : Steady s (doNop s) := .intro id rfl rfl

theorem doHalt_steady : Steady s (doHalt s) := .intro id rfl rfl

theorem doMov_steady (d q : Loc) : Steady s (doMov d q s) :=
  .intro (State.wf_writeLoc (s := s.advance 1) d _) (by simp) (by simp)

theorem doMvi_steady (d : Loc) (v : Byte) : Steady s (doMvi d v s) :=
  .intro (State.wf_writeLoc (s := s.advance 2) d _) (by simp) (by simp)

theorem doLxi_steady (p : Pair) (v : Word) : Steady s (doLxi p v s) :=
  .intro (by simp) (by simp) (by simp)

theorem doLda_steady (a : Word) : Steady s (doLda a s) := .intro id rfl rfl

theorem doSta_steady (a : Word) : Steady s (doSta a s) :=
  .intro (State.wf_writeMem (s := s.advance 3) a _) rfl rfl

theorem doLhld_steady (a : Word) : Steady s (doLhld a s) := .intro id rfl rfl

theorem doShld_steady (a : Word) : Steady s (doShld a s) :=
  .intro (fun h => State.wf_writeMem _ _ (State.wf_writeMem (s := s.advance 3) a _ h)) rfl rfl

theorem doLdax_steady (p : Pair) : Steady s (doLdax p s) := .intro id rfl rfl

theorem doStax_steady (p : Pair) : Steady s (doStax p s) :=
  .intro (State.wf_writeMem (s := s.advance 1) _ _) rfl rfl

theorem doInr_steady (o : Loc) : Steady s (doInr o s) :=
  .intro (State.wf_writeLoc (s := s.advance 1) o _) (by simp) (by simp)

theorem doDcr_steady (o : Loc) : Steady s (doDcr o s) :=
  .intro (State.wf_writeLoc (s := s.advance 1) o _) (by simp) (by simp)

theorem doInx_steady (p : Pair) : Steady s (doInx p s) := .intro (by simp) (by simp) (by simp)

theorem doDcx_steady (p : Pair) : Steady s (doDcx p s) := .intro (by simp) (by simp) (by simp)

theorem doAdd_steady (x : Src) : Steady s (doAdd x s) := .intro id rfl rfl

theorem doAdc_steady (x : Src) : Steady s (doAdc x s) := .intro id rfl rfl

theorem doSub_steady (x : Src) : Steady s (doSub x s) := .intro id rfl rfl

theorem doSbb_steady (x : Src) : Steady s (doSbb x s) := .intro id rfl rfl

theorem doAna_steady (x : Src) : Steady s (doAna x s) := .intro id rfl rfl

theorem doXra_steady (x : Src) : Steady s (doXra x s) := .intro id rfl rfl

theorem doOra_steady (x : Src) : Steady s (doOra x s) := .intro id rfl rfl

theorem doCmp_steady (x : Src) : Steady s (doCmp x s) := .intro id rfl rfl

theorem doDad_steady (p : Pair) : Steady s (doDad p s) := .intro id rfl rfl

theorem doCma_steady : Steady s (doCma s) := .intro id rfl rfl

theorem doStc_steady : Steady s (doStc s) := .intro id rfl rfl

theorem doCmc_steady : Steady s (doCmc s) := .intro id rfl rfl

theorem doRlc_steady : Steady s (doRlc s) := .intro id rfl rfl

theorem doRrc_steady : Steady s (doRrc s) := .intro id rfl rfl

theorem doRal_steady : Steady s (doRal s) := .intro id rfl rfl

theorem doRar_steady : Steady s (doRar s) := .intro id rfl rfl

theorem doDaa_steady : Steady s (doDaa s) := .intro id rfl rfl

theorem doPush_steady (p : Pair) : Steady s (doPush p s) :=
  .intro (State.wf_push16 (s := s.advance 1) _) rfl rfl

theorem doPushPsw_steady : Steady s (doPushPsw s) :=
  .intro (State.wf_push16 (s := s.advance 1) _) rfl rfl

theorem doPop_steady (p : Pair) : Steady s (doPop p s) := .intro (by simp) (by simp) (by simp)

theorem doPopPsw_steady : Steady s (doPopPsw s) := .intro id rfl rfl

theorem doSphl_steady : Steady s (doSphl s) := .intro id rfl rfl

theorem doJmp_steady (a : Word) : Steady s (doJmp a s) := .intro id rfl rfl

theorem doJcc_steady (cc : Cond) (a : Word) : Steady s (doJcc cc a s) := by
  unfold doJcc
  dsimp only
  split <;> exact .intro id rfl rfl

theorem doCall_steady (a : Word) : Steady s (doCall a s) :=
  .intro (State.wf_push16 (s := s.advance 3) _) rfl rfl

theorem doCcc_steady (cc : Cond) (a : Word) : Steady s (doCcc cc a s) := by
  unfold doCcc
  dsimp only
  split
  · exact .intro (State.wf_push16 (s := s.advance 3) _) rfl rfl
  · exact .intro id rfl rfl

theorem doRet_steady : Steady s (doRet s) := .intro id rfl rfl

theorem doRcc_steady (cc : Cond) : Steady s (doRcc cc s) := by
  unfold doRcc
  dsimp only
  split <;> exact .intro id rfl rfl

theorem doRst_steady (n : BitVec 3) : Steady s (doRst n s) :=
  .intro (State.wf_enterVector (s := s.advance 1) n) rfl rfl

theorem doPchl_steady : Steady s (doPchl s) := .intro id rfl rfl

theorem doXchg_steady : Steady s (doXchg s) := .intro id rfl rfl

theorem doXthl_steady : Steady s (doXthl s) :=
  .intro (State.wf_writeMem16 (s := s.advance 1) _ _) rfl rfl

theorem doIn_steady (p : Byte) : Steady s (doIn p s) := by
  unfold doIn State.afterIn
  dsimp only
  split <;> exact .intro id rfl rfl

theorem doOut_steady (p : Byte) : Steady s (doOut p s) := by
  unfold doOut State.machineOut
  dsimp only
  split_ifs <;> exact .intro id rfl rfl

theorem doEi_steady : Steady s (doEi s) := .intro id rfl rfl

theorem doDi_steady : Steady s (doDi s) := .intro id rfl rfl

theorem doUnimplemented_steady (op : Byte) : Steady s (doUnimplemented op s) :=
  ⟨_, rfl, id, rfl, fun _ h => State.raiseUnimplemented_fault_some op h⟩

end Sys2Proof.Machine
end

