-- ==== Sys2Proof/Laws/Flags.lean ====
section
/-! SUPPORT. What the flag engine computes, said once in the terms 40_dispatch_alu gives beside its formulas:
the borrow as a comparison, the auxiliary carries over low nibbles, parity as an exclusive OR, and the round
trip of the packed flag byte. -/

namespace Sys2Proof.Machine

/-- Parity is even when the exclusive OR of the eight bits is 0 (R110). -/
theorem popcount_even (v : Byte) :
    decide (popcount v % 2 = 0) =
      !(v.getLsbD 0 ^^ v.getLsbD 1 ^^ v.getLsbD 2 ^^ v.getLsbD 3 ^^ v.getLsbD 4 ^^ v.getLsbD 5
        ^^ v.getLsbD 6 ^^ v.getLsbD 7) := by
  revert v; decide +kernel

/-- The sign bit says the byte is at least 0x80 (R110). -/
theorem sign_bit (v : Byte) : v.getLsbD 7 = decide (0x80 ≤ v.toNat) := by
  revert v; decide +kernel

/-- Masking with 0x0F keeps the low nibble. -/
theorem low_nibble (v : Byte) : (v &&& 0x0F#8).toNat = v.toNat % 16 := by
  revert v; decide +kernel

/-- The low nibble of the complement. -/
theorem low_nibble_not (v : Byte) : (~~~v).toNat % 16 = 15 - v.toNat % 16 := by
  revert v; decide +kernel

theorem add8_result (a b : Byte) (c : Bool) :
    (add8 a b c).result = BitVec.ofNat 8 (a.toNat + b.toNat + c.toNat) := rfl

theorem add8_carry (a b : Byte) (c : Bool) :
    (add8 a b c).carry = decide (a.toNat + b.toNat + c.toNat > 0xFF) := rfl

theorem add8_aux (a b : Byte) (c : Bool) :
    (add8 a b c).aux = decide (a.toNat % 16 + b.toNat % 16 + c.toNat > 15) := by
  simp only [add8, low_nibble]

/-- The result of a subtraction is the difference modulo 256 (R112). -/
theorem sub8_result (a b : Byte) (c : Bool) :
    (sub8 a b c).result = a - b - BitVec.ofNat 8 c.toNat := by
  apply BitVec.eq_of_toNat_eq
  have ha := a.isLt
  have hb := b.isLt
  cases c <;> simp [sub8, BitVec.toNat_sub] <;> omega

/-- CY after a subtraction is the borrow (R112). -/
theorem sub8_carry (a b : Byte) (c : Bool) :
    (sub8 a b c).carry = decide (a.toNat < b.toNat + c.toNat) := by
  have ha := a.isLt
  have hb := b.isLt
  have hc : c.toNat ≤ 1 := by cases c <;> decide
  simp only [sub8, decide_eq_decide]
  omega

/-- AC after a subtraction is set when bit 3 does not borrow (R112). -/
theorem sub8_aux (a b : Byte) (c : Bool) :
    (sub8 a b c).aux = decide (a.toNat % 16 ≥ b.toNat % 16 + c.toNat) := by
  have hc : c.toNat ≤ 1 := by cases c <;> decide
  simp only [sub8, low_nibble, low_nibble_not, decide_eq_decide]
  omega

/-- `unpack(pack(f)) = f` (R27). -/
@[simp] theorem unpack_pack (pad : BitVec 3) (f : Flags) : unpack (pack pad f) = f := by
  obtain ⟨z, s, p, cy, ac⟩ := f
  revert pad z s p cy ac
  decide +kernel

end Sys2Proof.Machine
end

