-- ==== Sys2Proof/Tests/Slice0.lean ====
section
/-! SUPPORT. The model's own tests: the well-formedness smoke test, decoding of words written out from the
patterns of 30_encoding, one step on the states of 95_test_vectors (V<n>; expected values from its tables), and
for each statement with hypotheses a witness that meets them. -/

namespace Sys2Proof.Tests

open Sys2Proof.Machine Sys2Proof.Claims

/-- `bytes` at 0x0100 with the pc there, the rest as after reset, then changed by `f`. -/
def code (bytes : List Byte) (f : State → State := id) : State :=
  (f { State.reset with pc := 0x0100 }).writeBytes 0x0100 bytes

/-- The answer is a next state of which `p` holds. -/
def on (r : Result) (p : State → Bool) : Bool :=
  match r with
  | .next t => p t
  | _ => false

/-- A step of `s` gives exactly `f s`: what `f` does not change is unchanged. -/
def stepsTo (s : State) (f : State → State) : Bool := on (step s) fun t => decide (t = f s)

/-! ### Well-formedness: each of the twelve bytes' rows is no instruction -/

theorem test_wf_accepts_an_instruction : Instr.wellFormed (.jnz 0x1234) = true := by decide
theorem test_wf_accepts_hlt : Instr.wellFormed .hlt = true := by decide
theorem test_wf_refuses_08 : Instr.wellFormed .unimpl08 = false := by decide
theorem test_wf_refuses_10 : Instr.wellFormed .unimpl10 = false := by decide
theorem test_wf_refuses_18 : Instr.wellFormed .unimpl18 = false := by decide
theorem test_wf_refuses_20 : Instr.wellFormed .unimpl20 = false := by decide
theorem test_wf_refuses_28 : Instr.wellFormed .unimpl28 = false := by decide
theorem test_wf_refuses_30 : Instr.wellFormed .unimpl30 = false := by decide
theorem test_wf_refuses_38 : Instr.wellFormed .unimpl38 = false := by decide
theorem test_wf_refuses_cb : Instr.wellFormed .unimplCB = false := by decide
theorem test_wf_refuses_d9 : Instr.wellFormed .unimplD9 = false := by decide
theorem test_wf_refuses_dd : Instr.wellFormed .unimplDD = false := by decide
theorem test_wf_refuses_ed : Instr.wellFormed .unimplED = false := by decide
theorem test_wf_refuses_fd : Instr.wellFormed .unimplFD = false := by decide

/-! ### Decoding, from the bit patterns of R80 to R88 -/

/-- 01 DDD SSS with D = 010, E = 011. -/
theorem test_decode_mov_d_e : decode [0b01010011] = .ok .movDE [] := by decide
/-- 01 DDD 110 with H = 100. -/
theorem test_decode_mov_h_m : decode [0b01100110, 0xFF] = .ok .movHM [0xFF] := by decide
/-- 00 DDD 110, d8, with A = 111. -/
theorem test_decode_mvi_a : decode [0b00111110, 0x3C] = .ok (.mviA 0x3C) [] := by decide
/-- 00 RP 0001, low byte, high byte, with SP = 11. -/
theorem test_decode_lxi_sp : decode [0b00110001, 0x00, 0x24] = .ok (.lxiSp 0x2400) [] := by decide
/-- 00 DDD 100 with L = 101. -/
theorem test_decode_inr_l : decode [0b00101100] = .ok .inrL [] := by decide
/-- 00 RP 1011 with DE = 01. -/
theorem test_decode_dcx_d : decode [0b00011011] = .ok .dcxD [] := by decide
/-- 10 ooo SSS with CMP = 111, M = 110. -/
theorem test_decode_cmp_m : decode [0b10111110] = .ok .cmpM [] := by decide
/-- 11 ooo 110, d8, with SUI = 010. -/
theorem test_decode_sui : decode [0b11010110, 0x01] = .ok (.sui 0x01) [] := by decide
/-- The rotates and DAA: 00 000 111, 00 001 111, 00 010 111, 00 011 111, 00 100 111. -/
theorem test_decode_rotates :
    decode [0b00000111] = .ok .rlc [] ∧ decode [0b00001111] = .ok .rrc [] ∧ decode [0b00010111] = .ok .ral [] ∧
    decode [0b00011111] = .ok .rar [] ∧ decode [0b00100111] = .ok .daa [] := by decide
/-- 11 RP 0001 with PSW = 11. -/
theorem test_decode_pop_psw : decode [0b11110001] = .ok .popPsw [] := by decide
/-- 11 CCC 010, low byte, high byte, with PE = 101. -/
theorem test_decode_jpe : decode [0b11101010, 0x34, 0x12] = .ok (.jpe 0x1234) [] := by decide
/-- 11 CCC 100 with NC = 010; 11 CCC 000 with M = 111; 11 NNN 111 with n = 5. -/
theorem test_decode_cnc_rm_rst :
    decode [0b11010100, 0xCD, 0xAB] = .ok (.cnc 0xABCD) [] ∧ decode [0b11111000] = .ok .rm [] ∧
    decode [0b11101111] = .ok .rst5 [] := by decide
/-- 0xEB and 0xE3. -/
theorem test_decode_exchanges : decode [0b11101011] = .ok .xchg [] ∧ decode [0b11100011] = .ok .xthl [] := by decide
/-- 0xDB p8, 0xD3 p8, 0xFB and 0xF3. -/
theorem test_decode_io :
    decode [0b11011011, 0x03] = .ok (.inPort 3) [] ∧ decode [0b11010011, 0x04] = .ok (.outPort 4) [] ∧
    decode [0b11111011] = .ok .ei [] ∧ decode [0b11110011] = .ok .di [] := by decide
/-- 01 110 110 is HLT, not MOV M,M; 0x00 is NOP. -/
theorem test_decode_nop_hlt : decode [0b01110110] = .ok .hlt [] ∧ decode [0b00000000] = .ok .nop [] := by decide
/-- A byte with no instruction decodes to its own row. -/
theorem test_decode_dd : decode [0b11011101] = .ok .unimplDD [] := by decide
/-- Bytes that end before the instruction does are refused by name. -/
theorem test_decode_refuses_truncated :
    decode [] = .noBytes ∧ decode [0x3E] = .operandMissing 0x3E ∧ decode [0xCD, 0x00] = .operandMissing 0xCD := by
  decide
/-- LHLD 0x2060 as the words of the opcode table: the opcode in bits 7..0, the operand bytes above it. -/
theorem test_table_word_lhld : decodeTableWord 24 0x20602A = some (.lhld 0x2060) := by decide
/-- The bits above the table's are 0. -/
theorem test_table_word_short : decodeTableWord 8 0x3E = some (.mviA 0x00) := by decide
/-- An instruction placed for the next step is the one it runs: MVI D,0x5A from reset. -/
theorem test_fetch_word_runs :
    on (step (State.reset.withFetchWord 16 0x5A16)) (fun t => t.reg .d == 0x5A && t.pc == 2) = true := by decide
/-- Also in a halted state. -/
theorem test_fetch_word_runs_after_halt :
    on (step ({ State.reset with halted := true, pc := 0xFFFF }.withFetchWord 8 0x37))
      (fun t => t.flags.cy && t.pc == 0) = true := by decide

/-! ### Every opcode byte against the map of R87, row by row, with operand bytes 0x34 and 0x12 -/

/-- What row `hi` decodes to, column by column. -/
def mapRow (hi : Nat) : List Instr :=
  (List.range 16).map fun lo => decode3 (BitVec.ofNat 8 (16 * hi + lo)) 0x34 0x12

theorem test_map_row_0 :
    mapRow 0x0 = [.nop, (.lxiB 0x1234), .staxB, .inxB, .inrB, .dcrB, (.mviB 0x34), .rlc,
      .unimpl08, .dadB, .ldaxB, .dcxB, .inrC, .dcrC, (.mviC 0x34), .rrc] := by decide
theorem test_map_row_1 :
    mapRow 0x1 = [.unimpl10, (.lxiD 0x1234), .staxD, .inxD, .inrD, .dcrD, (.mviD 0x34), .ral,
      .unimpl18, .dadD, .ldaxD, .dcxD, .inrE, .dcrE, (.mviE 0x34), .rar] := by decide
theorem test_map_row_2 :
    mapRow 0x2 = [.unimpl20, (.lxiH 0x1234), (.shld 0x1234), .inxH, .inrH, .dcrH, (.mviH 0x34), .daa,
      .unimpl28, .dadH, (.lhld 0x1234), .dcxH, .inrL, .dcrL, (.mviL 0x34), .cma] := by decide
theorem test_map_row_3 :
    mapRow 0x3 = [.unimpl30, (.lxiSp 0x1234), (.sta 0x1234), .inxSp, .inrM, .dcrM, (.mviM 0x34), .stc,
      .unimpl38, .dadSp, (.lda 0x1234), .dcxSp, .inrA, .dcrA, (.mviA 0x34), .cmc] := by decide
theorem test_map_row_4 :
    mapRow 0x4 = [.movBB, .movBC, .movBD, .movBE, .movBH, .movBL, .movBM, .movBA,
      .movCB, .movCC, .movCD, .movCE, .movCH, .movCL, .movCM, .movCA] := by decide
theorem test_map_row_5 :
    mapRow 0x5 = [.movDB, .movDC, .movDD, .movDE, .movDH, .movDL, .movDM, .movDA,
      .movEB, .movEC, .movED, .movEE, .movEH, .movEL, .movEM, .movEA] := by decide
theorem test_map_row_6 :
    mapRow 0x6 = [.movHB, .movHC, .movHD, .movHE, .movHH, .movHL, .movHM, .movHA,
      .movLB, .movLC, .movLD, .movLE, .movLH, .movLL, .movLM, .movLA] := by decide
theorem test_map_row_7 :
    mapRow 0x7 = [.movMB, .movMC, .movMD, .movME, .movMH, .movML, .hlt, .movMA,
      .movAB, .movAC, .movAD, .movAE, .movAH, .movAL, .movAM, .movAA] := by decide
theorem test_map_row_8 :
    mapRow 0x8 = [.addB, .addC, .addD, .addE, .addH, .addL, .addM, .addA,
      .adcB, .adcC, .adcD, .adcE, .adcH, .adcL, .adcM, .adcA] := by decide
theorem test_map_row_9 :
    mapRow 0x9 = [.subB, .subC, .subD, .subE, .subH, .subL, .subM, .subA,
      .sbbB, .sbbC, .sbbD, .sbbE, .sbbH, .sbbL, .sbbM, .sbbA] := by decide
theorem test_map_row_a :
    mapRow 0xA = [.anaB, .anaC, .anaD, .anaE, .anaH, .anaL, .anaM, .anaA,
      .xraB, .xraC, .xraD, .xraE, .xraH, .xraL, .xraM, .xraA] := by decide
theorem test_map_row_b :
    mapRow 0xB = [.oraB, .oraC, .oraD, .oraE, .oraH, .oraL, .oraM, .oraA,
      .cmpB, .cmpC, .cmpD, .cmpE, .cmpH, .cmpL, .cmpM, .cmpA] := by decide
theorem test_map_row_c :
    mapRow 0xC = [.rnz, .popB, (.jnz 0x1234), (.jmp 0x1234), (.cnz 0x1234), .pushB, (.adi 0x34), .rst0,
      .rz, .ret, (.jz 0x1234), .unimplCB, (.cz 0x1234), (.call 0x1234), (.aci 0x34), .rst1] := by decide
theorem test_map_row_d :
    mapRow 0xD = [.rnc, .popD, (.jnc 0x1234), (.outPort 0x34), (.cnc 0x1234), .pushD, (.sui 0x34), .rst2,
      .rc, .unimplD9, (.jc 0x1234), (.inPort 0x34), (.cc 0x1234), .unimplDD, (.sbi 0x34), .rst3] := by decide
theorem test_map_row_e :
    mapRow 0xE = [.rpo, .popH, (.jpo 0x1234), .xthl, (.cpo 0x1234), .pushH, (.ani 0x34), .rst4,
      .rpe, .pchl, (.jpe 0x1234), .xchg, (.cpe 0x1234), .unimplED, (.xri 0x34), .rst5] := by decide
theorem test_map_row_f :
    mapRow 0xF = [.rp, .popPsw, (.jp 0x1234), .di, (.cp 0x1234), .pushPsw, (.ori 0x34), .rst6,
      .rm, .sphl, (.jm 0x1234), .ei, (.cm 0x1234), .unimplFD, (.cpi 0x34), .rst7] := by decide

/-! ### One step, from 95_test_vectors -/

/-- V1 (R130): NOP. -/
theorem test_v1_nop :
    stepsTo (code [0x00] id)
      (fun b => { b with pc := 0x0101 }) = true := by decide

/-- V2 (R131): HLT. -/
theorem test_v2_hlt :
    stepsTo (code [0x76] id)
      (fun b => { b with pc := 0x0101, halted := true }) = true := by decide

/-- V10 (R140): MOV B,C. -/
theorem test_v10_mov_b_c :
    stepsTo (code [0x41] (fun s => s |>.setReg .c 0x5A))
      (fun b => { b with pc := 0x0101 } |>.setReg .b 0x5A) = true := by decide

/-- V12 (R141): MOV A,M. -/
theorem test_v12_mov_a_m :
    stepsTo (code [0x7E] (fun s => s |>.setReg .h 0x20 |>.setReg .l 0x00 |>.writeMem 0x2000 0x99))
      (fun b => { b with pc := 0x0101 } |>.setReg .a 0x99) = true := by decide

/-- V13 (R142): MOV M,E. -/
theorem test_v13_mov_m_e :
    stepsTo (code [0x73] (fun s => s |>.setReg .h 0x20 |>.setReg .l 0x10 |>.setReg .e 0xE7))
      (fun b => { b with pc := 0x0101 } |>.writeMem 0x2010 0xE7) = true := by decide

/-- V14 (R143): MVI D,0x5A. -/
theorem test_v14_mvi_d_0x5a :
    stepsTo (code [0x16, 0x5A] id)
      (fun b => { b with pc := 0x0102 } |>.setReg .d 0x5A) = true := by decide

/-- V15 (R144): MVI M,0xC3. -/
theorem test_v15_mvi_m_0xc3 :
    stepsTo (code [0x36, 0xC3] (fun s => s |>.setReg .h 0x30 |>.setReg .l 0x01))
      (fun b => { b with pc := 0x0102 } |>.writeMem 0x3001 0xC3) = true := by decide

/-- V17 (R145): LXI SP,0x2400. -/
theorem test_v17_lxi_sp_0x2400 :
    stepsTo (code [0x31, 0x00, 0x24] id)
      (fun b => { b with sp := 0x2400, pc := 0x0103 }) = true := by decide

/-- V18 (R146): LDA 0x2050. -/
theorem test_v18_lda_0x2050 :
    stepsTo (code [0x3A, 0x50, 0x20] (fun s => s |>.writeMem 0x2050 0x7E))
      (fun b => { b with pc := 0x0103 } |>.setReg .a 0x7E) = true := by decide

/-- V19 (R147): STA 0x2051. -/
theorem test_v19_sta_0x2051 :
    stepsTo (code [0x32, 0x51, 0x20] (fun s => s |>.setReg .a 0x81))
      (fun b => { b with pc := 0x0103 } |>.writeMem 0x2051 0x81) = true := by decide

/-- V20 (R148): LHLD 0x2060. -/
theorem test_v20_lhld_0x2060 :
    stepsTo (code [0x2A, 0x60, 0x20] (fun s => s |>.writeMem 0x2060 0x34 |>.writeMem 0x2061 0x12))
      (fun b => { b with pc := 0x0103 } |>.setReg .h 0x12 |>.setReg .l 0x34) = true := by decide

/-- V22 (R149): SHLD 0xFFFF (address wraps). -/
theorem test_v22_shld_0xffff_address_wraps :
    stepsTo (code [0x22, 0xFF, 0xFF] (fun s => s |>.setReg .h 0xAB |>.setReg .l 0xCD))
      (fun b => { b with pc := 0x0103 } |>.writeMem 0xFFFF 0xCD |>.writeMem 0x0000 0xAB) = true := by decide

/-- V23 (R150): LDAX D. -/
theorem test_v23_ldax_d :
    stepsTo (code [0x1A] (fun s => s |>.setReg .d 0x20 |>.setReg .e 0x70 |>.writeMem 0x2070 0x5F))
      (fun b => { b with pc := 0x0101 } |>.setReg .a 0x5F) = true := by decide

/-- V24 (R151): STAX B. -/
theorem test_v24_stax_b :
    stepsTo (code [0x02] (fun s => s |>.setReg .a 0x11 |>.setReg .b 0x20 |>.setReg .c 0x71))
      (fun b => { b with pc := 0x0101 } |>.writeMem 0x2071 0x11) = true := by decide

/-- V30 (R170): INR A. -/
theorem test_v30_inr_a :
    stepsTo (code [0x3C] (fun s => { s with flags := { s.flags with cy := true } } |>.setReg .a 0xFF))
      (fun b => { b with pc := 0x0101, flags := { b.flags with z := true, p := true, ac := true } } |>.setReg .a 0x00) = true := by decide

/-- V34 (R172): DCR E. -/
theorem test_v34_dcr_e :
    stepsTo (code [0x1D] (fun s => s |>.setReg .e 0x10))
      (fun b => { b with pc := 0x0101, flags := { b.flags with p := true } } |>.setReg .e 0x0F) = true := by decide

/-- V35 (R171): INR M. -/
theorem test_v35_inr_m :
    stepsTo (code [0x34] (fun s => s |>.setReg .h 0x20 |>.setReg .l 0x00 |>.writeMem 0x2000 0x0F))
      (fun b => { b with pc := 0x0101, flags := { b.flags with ac := true } } |>.writeMem 0x2000 0x10) = true := by decide

/-- V36 (R173): DCR M. -/
theorem test_v36_dcr_m :
    stepsTo (code [0x35] (fun s => s |>.setReg .h 0x20 |>.setReg .l 0x00 |>.writeMem 0x2000 0x00))
      (fun b => { b with pc := 0x0101, flags := { b.flags with s := true, p := true } } |>.writeMem 0x2000 0xFF) = true := by decide

/-- V37 (R174): INX H. -/
theorem test_v37_inx_h :
    stepsTo (code [0x23] (fun s => s |>.setReg .h 0xFF |>.setReg .l 0xFF))
      (fun b => { b with pc := 0x0101 } |>.setReg .h 0x00 |>.setReg .l 0x00) = true := by decide

/-- V39 (R175): DCX SP. -/
theorem test_v39_dcx_sp :
    stepsTo (code [0x3B] (fun s => { s with sp := 0x0000 }))
      (fun b => { b with sp := 0xFFFF, pc := 0x0101 }) = true := by decide

/-- V50 (R180): ADD B. -/
theorem test_v50_add_b :
    stepsTo (code [0x80] (fun s => s |>.setReg .a 0x7F |>.setReg .b 0x01))
      (fun b => { b with pc := 0x0101, flags := { b.flags with s := true, ac := true } } |>.setReg .a 0x80) = true := by decide

/-- V51 (R181): ADD M. -/
theorem test_v51_add_m :
    stepsTo (code [0x86] (fun s => s |>.setReg .a 0x3A |>.setReg .h 0x20 |>.writeMem 0x2000 0xC6))
      (fun b => { b with pc := 0x0101, flags := { b.flags with z := true, p := true, cy := true, ac := true } } |>.setReg .a 0x00) = true := by decide

/-- V52 (R182): ADI 0x01. -/
theorem test_v52_adi_0x01 :
    stepsTo (code [0xC6, 0x01] (fun s => s |>.setReg .a 0xFF))
      (fun b => { b with pc := 0x0102, flags := { b.flags with z := true, p := true, cy := true, ac := true } } |>.setReg .a 0x00) = true := by decide

/-- V53 (R183): ADC C. -/
theorem test_v53_adc_c :
    stepsTo (code [0x89] (fun s => { s with flags := { s.flags with cy := true } } |>.setReg .a 0xFF |>.setReg .c 0x00))
      (fun b => { b with pc := 0x0101, flags := { b.flags with z := true, p := true, ac := true } } |>.setReg .a 0x00) = true := by decide

/-- V55 (R185): ACI 0x0F. -/
theorem test_v55_aci_0x0f :
    stepsTo (code [0xCE, 0x0F] (fun s => { s with flags := { s.flags with cy := true } } |>.setReg .a 0x00))
      (fun b => { b with pc := 0x0102, flags := { b.flags with cy := false, ac := true } } |>.setReg .a 0x10) = true := by decide

/-- V57 (R186): SUB B. -/
theorem test_v57_sub_b :
    stepsTo (code [0x90] (fun s => s |>.setReg .a 0x00 |>.setReg .b 0x01))
      (fun b => { b with pc := 0x0101, flags := { b.flags with s := true, p := true, cy := true } } |>.setReg .a 0xFF) = true := by decide

/-- V58 (R187): SUB M. -/
theorem test_v58_sub_m :
    stepsTo (code [0x96] (fun s => s |>.setReg .a 0x10 |>.setReg .h 0x20 |>.writeMem 0x2000 0x01))
      (fun b => { b with pc := 0x0101, flags := { b.flags with p := true } } |>.setReg .a 0x0F) = true := by decide

/-- V59 (R188): SUI 0x10. -/
theorem test_v59_sui_0x10 :
    stepsTo (code [0xD6, 0x10] (fun s => s |>.setReg .a 0x10))
      (fun b => { b with pc := 0x0102, flags := { b.flags with z := true, p := true, ac := true } } |>.setReg .a 0x00) = true := by decide

/-- V60 (R189): SBB B. -/
theorem test_v60_sbb_b :
    stepsTo (code [0x98] (fun s => { s with flags := { s.flags with cy := true } } |>.setReg .a 0x05 |>.setReg .b 0x05))
      (fun b => { b with pc := 0x0101, flags := { b.flags with s := true, p := true } } |>.setReg .a 0xFF) = true := by decide

/-- V62 (R191): SBI 0x00. -/
theorem test_v62_sbi_0x00 :
    stepsTo (code [0xDE, 0x00] (fun s => { s with flags := { s.flags with cy := true } } |>.setReg .a 0x00))
      (fun b => { b with pc := 0x0102, flags := { b.flags with s := true, p := true } } |>.setReg .a 0xFF) = true := by decide

/-- V63 (R192): ANA B. -/
theorem test_v63_ana_b :
    stepsTo (code [0xA0] (fun s => { s with flags := { s.flags with cy := true, ac := true } } |>.setReg .a 0xFC |>.setReg .b 0x0F))
      (fun b => { b with pc := 0x0101, flags := { b.flags with p := true, cy := false, ac := false } } |>.setReg .a 0x0C) = true := by decide

/-- V66 (R195): XRA A. -/
theorem test_v66_xra_a :
    stepsTo (code [0xAF] (fun s => { s with flags := { s.flags with cy := true } } |>.setReg .a 0x5A))
      (fun b => { b with pc := 0x0101, flags := { b.flags with z := true, p := true, cy := false } } |>.setReg .a 0x00) = true := by decide

/-- V69 (R198): ORA C. -/
theorem test_v69_ora_c :
    stepsTo (code [0xB1] (fun s => { s with flags := { s.flags with cy := true } } |>.setReg .a 0x80 |>.setReg .c 0x01))
      (fun b => { b with pc := 0x0101, flags := { b.flags with s := true, p := true, cy := false } } |>.setReg .a 0x81) = true := by decide

/-- V73 (R201): CMP B (A < B). -/
theorem test_v73_cmp_b_a_b :
    stepsTo (code [0xB8] (fun s => s |>.setReg .a 0x01 |>.setReg .b 0x02))
      (fun b => { b with pc := 0x0101, flags := { b.flags with s := true, p := true, cy := true } }) = true := by decide

/-- V74 (R202): CMP M. -/
theorem test_v74_cmp_m :
    stepsTo (code [0xBE] (fun s => s |>.setReg .a 0x10 |>.setReg .h 0x20 |>.writeMem 0x2000 0x20))
      (fun b => { b with pc := 0x0101, flags := { b.flags with s := true, p := true, cy := true, ac := true } }) = true := by decide

/-- V75 (R203): CPI 0x40. -/
theorem test_v75_cpi_0x40 :
    stepsTo (code [0xFE, 0x40] (fun s => s |>.setReg .a 0x42))
      (fun b => { b with pc := 0x0102, flags := { b.flags with ac := true } }) = true := by decide

/-- V76 (R204): DAD B. -/
theorem test_v76_dad_b :
    stepsTo (code [0x09] (fun s => s |>.setReg .h 0xFF |>.setReg .l 0xFF |>.setReg .b 0x00 |>.setReg .c 0x01))
      (fun b => { b with pc := 0x0101, flags := { b.flags with cy := true } } |>.setReg .h 0x00 |>.setReg .l 0x00) = true := by decide

/-- V78 (R205): CMA. -/
theorem test_v78_cma :
    stepsTo (code [0x2F] (fun s => s |>.setReg .a 0x51))
      (fun b => { b with pc := 0x0101 } |>.setReg .a 0xAE) = true := by decide

/-- V79 (R206): STC. -/
theorem test_v79_stc :
    stepsTo (code [0x37] id)
      (fun b => { b with pc := 0x0101, flags := { b.flags with cy := true } }) = true := by decide

/-- V80 (R207): CMC. -/
theorem test_v80_cmc :
    stepsTo (code [0x3F] (fun s => { s with flags := { s.flags with cy := true } }))
      (fun b => { b with pc := 0x0101, flags := { b.flags with cy := false } }) = true := by decide

/-- V90 (R230): RLC. -/
theorem test_v90_rlc :
    stepsTo (code [0x07] (fun s => s |>.setReg .a 0x80))
      (fun b => { b with pc := 0x0101, flags := { b.flags with cy := true } } |>.setReg .a 0x01) = true := by decide

/-- V91 (R231): RRC. -/
theorem test_v91_rrc :
    stepsTo (code [0x0F] (fun s => s |>.setReg .a 0x01))
      (fun b => { b with pc := 0x0101, flags := { b.flags with cy := true } } |>.setReg .a 0x80) = true := by decide

/-- V93 (R232): RAL. -/
theorem test_v93_ral :
    stepsTo (code [0x17] (fun s => { s with flags := { s.flags with cy := true, z := true } } |>.setReg .a 0x55))
      (fun b => { b with pc := 0x0101, flags := { b.flags with cy := false } } |>.setReg .a 0xAB) = true := by decide

/-- V94 (R233): RAR. -/
theorem test_v94_rar :
    stepsTo (code [0x1F] (fun s => { s with flags := { s.flags with cy := true } } |>.setReg .a 0x01))
      (fun b => { b with pc := 0x0101, flags := { b.flags with cy := true } } |>.setReg .a 0x80) = true := by decide

/-- V95 (R240): DAA. -/
theorem test_v95_daa :
    stepsTo (code [0x27] (fun s => s |>.setReg .a 0x9A))
      (fun b => { b with pc := 0x0101, flags := { b.flags with z := true, p := true, cy := true, ac := true } } |>.setReg .a 0x00) = true := by decide

/-- V96 (R240): DAA (low correction crosses bit 7). -/
theorem test_v96_daa_low_correction_crosses_bit_7 :
    stepsTo (code [0x27] (fun s => s |>.setReg .a 0xFA))
      (fun b => { b with pc := 0x0101, flags := { b.flags with p := true, cy := true, ac := true } } |>.setReg .a 0x60) = true := by decide

/-- V97 (R240): DAA after 0x09 + 0x08 (AC=1). -/
theorem test_v97_daa_after_0x09_0x08_ac_1 :
    stepsTo (code [0x27] (fun s => { s with flags := { s.flags with ac := true } } |>.setReg .a 0x11))
      (fun b => { b with pc := 0x0101, flags := { b.flags with p := true, ac := false } } |>.setReg .a 0x17) = true := by decide

/-- V98 (R240): DAA after 0x50 + 0x50 (CY=1). -/
theorem test_v98_daa_after_0x50_0x50_cy_1 :
    stepsTo (code [0x27] (fun s => { s with flags := { s.flags with cy := true } } |>.setReg .a 0x00))
      (fun b => { b with pc := 0x0101, flags := { b.flags with p := true } } |>.setReg .a 0x60) = true := by decide

/-- V110 (R250): PUSH B. -/
theorem test_v110_push_b :
    stepsTo (code [0xC5] (fun s => { s with sp := 0x2400 } |>.setReg .b 0x12 |>.setReg .c 0x34))
      (fun b => { b with sp := 0x23FE, pc := 0x0101 } |>.writeMem 0x23FF 0x12 |>.writeMem 0x23FE 0x34) = true := by decide

/-- V112 (R251): PUSH PSW. -/
theorem test_v112_push_psw :
    stepsTo (code [0xF5] (fun s => { s with sp := 0x2400, flags := { s.flags with z := true, p := true, cy := true } } |>.setReg .a 0x42))
      (fun b => { b with sp := 0x23FE, pc := 0x0101 } |>.writeMem 0x23FF 0x42 |>.writeMem 0x23FE 0x0D) = true := by decide

/-- V114 (R253): POP PSW, pad bits set. -/
theorem test_v114_pop_psw_pad_bits_set :
    stepsTo (code [0xF1] (fun s => { s with sp := 0x23FE } |>.writeMem 0x23FE 0xFF |>.writeMem 0x23FF 0x99))
      (fun b => { b with sp := 0x2400, pc := 0x0101, flags := { b.flags with z := true, s := true, p := true, cy := true, ac := true } } |>.setReg .a 0x99) = true := by decide

/-- V116 (R250): PUSH H at SP=0x0000. -/
theorem test_v116_push_h_at_sp_0x0000 :
    stepsTo (code [0xE5] (fun s => { s with sp := 0x0000 } |>.setReg .h 0xAB |>.setReg .l 0xCD))
      (fun b => { b with sp := 0xFFFE, pc := 0x0101 } |>.writeMem 0xFFFF 0xAB |>.writeMem 0xFFFE 0xCD) = true := by decide

/-- V117 (R252): POP B at SP=0xFFFF. -/
theorem test_v117_pop_b_at_sp_0xffff :
    stepsTo (code [0xC1] (fun s => { s with sp := 0xFFFF } |>.writeMem 0xFFFF 0x11 |>.writeMem 0x0000 0x22))
      (fun b => { b with sp := 0x0001, pc := 0x0101 } |>.setReg .b 0x22 |>.setReg .c 0x11) = true := by decide

/-- V118 (R254): SPHL. -/
theorem test_v118_sphl :
    stepsTo (code [0xF9] (fun s => s |>.setReg .h 0x24 |>.setReg .l 0x00))
      (fun b => { b with sp := 0x2400, pc := 0x0101 }) = true := by decide

/-- V130 (R270): JMP 0x1234. -/
theorem test_v130_jmp_0x1234 :
    stepsTo (code [0xC3, 0x34, 0x12] id)
      (fun b => { b with pc := 0x1234 }) = true := by decide

/-- V131 (R271): JNZ 0x0200, taken. -/
theorem test_v131_jnz_0x0200_taken :
    stepsTo (code [0xC2, 0x00, 0x02] (fun s => { s with flags := { s.flags with z := false } }))
      (fun b => { b with pc := 0x0200 }) = true := by decide

/-- V132 (R271): JNZ 0x0200, not taken. -/
theorem test_v132_jnz_0x0200_not_taken :
    stepsTo (code [0xC2, 0x00, 0x02] (fun s => { s with flags := { s.flags with z := true } }))
      (fun b => { b with pc := 0x0103 }) = true := by decide

/-- V133 (R271): JC 0x0300. -/
theorem test_v133_jc_0x0300 :
    stepsTo (code [0xDA, 0x00, 0x03] (fun s => { s with flags := { s.flags with cy := true } }))
      (fun b => { b with pc := 0x0300 }) = true := by decide

/-- V134 (R271): JPE 0x0300, not taken. -/
theorem test_v134_jpe_0x0300_not_taken :
    stepsTo (code [0xEA, 0x00, 0x03] (fun s => { s with flags := { s.flags with p := false } }))
      (fun b => { b with pc := 0x0103 }) = true := by decide

/-- V136 (R271): JM 0x0300. -/
theorem test_v136_jm_0x0300 :
    stepsTo (code [0xFA, 0x00, 0x03] (fun s => { s with flags := { s.flags with s := true } }))
      (fun b => { b with pc := 0x0300 }) = true := by decide

/-- V137 (R272): CALL 0x0300. -/
theorem test_v137_call_0x0300 :
    stepsTo (code [0xCD, 0x00, 0x03] (fun s => { s with sp := 0x2400 }))
      (fun b => { b with sp := 0x23FE, pc := 0x0300 } |>.writeMem 0x23FF 0x01 |>.writeMem 0x23FE 0x03) = true := by decide

/-- V138 (R273): CNZ 0x0300, not taken. -/
theorem test_v138_cnz_0x0300_not_taken :
    stepsTo (code [0xC4, 0x00, 0x03] (fun s => { s with sp := 0x2400, flags := { s.flags with z := true } }))
      (fun b => { b with pc := 0x0103 }) = true := by decide

/-- V139 (R273): CZ 0x0300, taken. -/
theorem test_v139_cz_0x0300_taken :
    stepsTo (code [0xCC, 0x00, 0x03] (fun s => { s with sp := 0x2400, flags := { s.flags with z := true } }))
      (fun b => { b with sp := 0x23FE, pc := 0x0300 } |>.writeMem 0x23FF 0x01 |>.writeMem 0x23FE 0x03) = true := by decide

/-- V140 (R274): RET. -/
theorem test_v140_ret :
    stepsTo (code [0xC9] (fun s => { s with sp := 0x23FE } |>.writeMem 0x23FE 0x03 |>.writeMem 0x23FF 0x01))
      (fun b => { b with sp := 0x2400, pc := 0x0103 }) = true := by decide

/-- V141 (R275): RZ, not taken. -/
theorem test_v141_rz_not_taken :
    stepsTo (code [0xC8] (fun s => { s with sp := 0x23FE, flags := { s.flags with z := false } }))
      (fun b => { b with pc := 0x0101 }) = true := by decide

/-- V142 (R275): RNC, taken. -/
theorem test_v142_rnc_taken :
    stepsTo (code [0xD0] (fun s => { s with sp := 0x23FE, flags := { s.flags with cy := false } } |>.writeMem 0x23FE 0x03 |>.writeMem 0x23FF 0x01))
      (fun b => { b with sp := 0x2400, pc := 0x0103 }) = true := by decide

/-- V143 (R276): RST 7. -/
theorem test_v143_rst_7 :
    stepsTo (code [0xFF] (fun s => { s with sp := 0x2400 }))
      (fun b => { b with sp := 0x23FE, pc := 0x0038 } |>.writeMem 0x23FF 0x01 |>.writeMem 0x23FE 0x01) = true := by decide

/-- V144 (R277): PCHL. -/
theorem test_v144_pchl :
    stepsTo (code [0xE9] (fun s => s |>.setReg .h 0x1A |>.setReg .l 0x2B))
      (fun b => { b with pc := 0x1A2B }) = true := by decide

/-- V150 (R290): XCHG. -/
theorem test_v150_xchg :
    stepsTo (code [0xEB] (fun s => s |>.setReg .h 0x12 |>.setReg .l 0x34 |>.setReg .d 0xAB |>.setReg .e 0xCD))
      (fun b => { b with pc := 0x0101 } |>.setReg .h 0xAB |>.setReg .l 0xCD |>.setReg .d 0x12 |>.setReg .e 0x34) = true := by decide

/-- V152 (R291): XTHL at SP=0xFFFF. -/
theorem test_v152_xthl_at_sp_0xffff :
    stepsTo (code [0xE3] (fun s => { s with sp := 0xFFFF } |>.setReg .h 0x12 |>.setReg .l 0x34 |>.writeMem 0xFFFF 0x56 |>.writeMem 0x0000 0x78))
      (fun b => { b with pc := 0x0101 } |>.setReg .h 0x78 |>.setReg .l 0x56 |>.writeMem 0xFFFF 0x34 |>.writeMem 0x0000 0x12) = true := by decide

/-- V160 (R307): IN 1. -/
theorem test_v160_in_1 :
    stepsTo (code [0xDB, 0x01] (fun s => { s with ports := { s.ports with in1 := 0x81 } }))
      (fun b => { b with pc := 0x0102 } |>.setReg .a 0x81) = true := by decide

/-- V161 (R307): IN 2. -/
theorem test_v161_in_2 :
    stepsTo (code [0xDB, 0x02] (fun s => { s with ports := { s.ports with in2 := 0x08 } }))
      (fun b => { b with pc := 0x0102 } |>.setReg .a 0x08) = true := by decide

/-- V163 (R307): IN 3, amount 3. -/
theorem test_v163_in_3_amount_3 :
    stepsTo (code [0xDB, 0x03] (fun s => { s with ports := { s.ports with shift1 := 0xCD, shift0 := 0xAB, shiftAmount := 3 } }))
      (fun b => { b with pc := 0x0102 } |>.setReg .a 0x6D) = true := by decide

/-- V164 (R307): IN 3, amount 7. -/
theorem test_v164_in_3_amount_7 :
    stepsTo (code [0xDB, 0x03] (fun s => { s with ports := { s.ports with shift1 := 0xCD, shift0 := 0xAB, shiftAmount := 7 } }))
      (fun b => { b with pc := 0x0102 } |>.setReg .a 0xD5) = true := by decide

/-- V166 (R303): OUT 2. -/
theorem test_v166_out_2 :
    stepsTo (code [0xD3, 0x02] (fun s => s |>.setReg .a 0xFF))
      (fun b => { b with pc := 0x0102, ports := { b.ports with shiftAmount := 7 } }) = true := by decide

/-- V167 (R304): OUT 4. -/
theorem test_v167_out_4 :
    stepsTo (code [0xD3, 0x04] (fun s => { s with ports := { s.ports with shift1 := 0x11 } } |>.setReg .a 0xAB))
      (fun b => { b with pc := 0x0102, ports := { b.ports with shift0 := 0x11, shift1 := 0xAB } }) = true := by decide

/-- V169 (R309): EI. -/
theorem test_v169_ei :
    stepsTo (code [0xFB] id)
      (fun b => { b with ie := true, pc := 0x0101 }) = true := by decide

/-- V170 (R310): DI. -/
theorem test_v170_di :
    stepsTo (code [0xF3] (fun s => { s with ie := true }))
      (fun b => { b with ie := false, pc := 0x0101 }) = true := by decide

/-- V3 (R106): a step after HLT returns Halt and changes nothing. -/
theorem test_v3_step_of_halted :
    stepsTo { code [0x76] with halted := true } id = true ∧ stepOutcome { code [0x76] with halted := true } = .halt := by
  decide

/-- V65 (R194): ANI 0x08 with `ANA_AC = Intel` sets AC. -/
theorem test_v65_ani_intel :
    on (step { code [0xE6, 0x08] (fun s => s.setReg .a 0x08) with cfg := { Config.default with anaAC := .intel } })
      (fun t => t.reg .a == 0x08 && t.flags == ⟨false, false, false, false, true⟩) = true := by decide

/-- V145 (R55): LXI H,0x1234 at 0xFFFE wraps. -/
theorem test_v145_fetch_wraps :
    on (step ({ State.reset with pc := 0xFFFE }.writeBytes 0xFFFE [0x21, 0x34, 0x12]))
      (fun t => t.pair .hl == 0x1234 && t.pc == 0x0001) = true := by decide

/-- V165 (R305): IN from an unmapped port takes the host's draw and changes nothing else of the core. -/
theorem test_v165_in_unmapped :
    step (code [0xDB, 0x10] (fun s => s.setReg .a 0x55)) =
      .next { (code [0xDB, 0x10] (fun s => s.setReg .a 0x55)).setReg .a (Config.unmappedIn 0x10 0) with
        pc := 0x0102, draws := 1 } := by rfl

/-- V168 (R306): OUT 6 shows the host (0x06, 0x77) and changes nothing else of the core. -/
theorem test_v168_out_unmapped :
    stepsTo (code [0xD3, 0x06] (fun s => s.setReg .a 0x77))
      (fun b => { b with pc := 0x0102, outLog := [⟨0x06, 0x77⟩] }) = true := by decide

/-- V180 (R330): byte 0xCB. -/
theorem test_v180_unimplemented :
    stepsTo (code [0xCB] (fun s => s.setReg .a 0x12)) (fun b => { b with pc := 0x0101, fault := some ⟨0x0100, 0xCB⟩ }) = true ∧
    stepOutcome (code [0xCB]) = .unimplemented 0x0100 0xCB := by decide

/-- R331: under `Nop` the next instruction runs and the first record stays. -/
theorem test_unimplemented_nop_policy :
    on (Host.Core.run core 3 { code [0x08, 0x3C, 0xED] with cfg := { Config.default with unimplPolicy := .nop } })
      (fun t => t.reg .a == 1 && t.pc == 0x0103 && t.fault == some ⟨0x0100, 0x08⟩) = true := by decide

/-! ### Interrupts, from 95_test_vectors -/

/-- A state at a boundary: pc 0x1234, sp 0x2400. -/
def boundary (ie : Bool) : State := { State.reset with pc := 0x1234, sp := 0x2400, ie := ie }

/-- V182 (R342). -/
theorem test_v182_delivered :
    on (requestInterrupt 2 (boundary true)) (fun t => decide (t =
      { boundary true with pc := 0x0010, sp := 0x23FE, mem := [(0x23FE, 0x34), (0x23FF, 0x12)] })) = true := by decide
/-- V183 (R344). -/
theorem test_v183_dropped : on (requestInterrupt 2 (boundary false)) (fun t => decide (t = boundary false)) = true := by
  decide
/-- V184 (R341): halted under `Terminal`. -/
theorem test_v184_terminal_halt :
    on (requestInterrupt 1 { boundary true with halted := true })
      (fun t => decide (t = { boundary true with halted := true })) = true := by decide
/-- V185 (R342): woken under `WakeOnInterrupt`. -/
theorem test_v185_woken :
    on (requestInterrupt 1 { boundary true with
        pc := 0x0201, halted := true, cfg := { Config.default with haltPolicy := .wakeOnInterrupt } })
      (fun t => !t.halted && t.pc == 0x0008 && t.sp == 0x23FE && t.readMem16 0x23FE == 0x0201) = true := by decide
/-- V186 (R343): `ACK_CLEARS_IE`. -/
theorem test_v186_ack_clears :
    on (requestInterrupt 7 { boundary true with cfg := { Config.default with ackClearsIE := true } })
      (fun t => t.pc == 0x0038 && !t.ie && t.readMem16 0x23FE == 0x1234) = true := by decide
/-- V187 (R342): the push wraps over 0x0000. -/
theorem test_v187_push_wraps :
    on (requestInterrupt 0 { boundary true with pc := 0x0100, sp := 0x0001 })
      (fun t => t.pc == 0 && t.sp == 0xFFFF && t.readMem 0x0000 == 0x01 && t.readMem 0xFFFF == 0x00) = true := by decide
/-- V188 (R340). -/
theorem test_v188_refused : requestInterrupt 8 (boundary true) = .refused (.badVectorIndex 8) := by rfl
/-- R301, R355: the host's ports and memory, across the top of memory. -/
theorem test_host_calls :
    on (runSchedule [.call (.setIn1 0x81), .call (.loadRom 0xFFFF [0x11, 0xDB, 0x01]), .call (.setIn2 0x08)] State.reset)
      (fun t => t.ports.in1 == 0x81 && t.ports.in2 == 0x08 && hostReadMem t 0xFFFF 3 == [0x11, 0xDB, 0x01]) = true := by
  decide

/-! ### Memory and reset -/

theorem test_reset_memory_wf : State.reset.mem.wf = true := by decide
/-- Writing what an unlisted address reads as removes the entry. -/
theorem test_write_zero_unlists : ((State.reset.writeMem 0x2000 0x5A).writeMem 0x2000 0x00).mem = [] := by decide
/-- Entries rise. -/
theorem test_writes_sort : ((State.reset.writeMem 0x2001 0x02).writeMem 0x2000 0x01).mem = [(0x2000, 0x01), (0x2001, 0x02)] := by
  decide
theorem test_wf_refuses_unsorted : Memory.wf [(2, 1), (1, 1)] = false := by decide
theorem test_wf_refuses_zero : Memory.wf [(2, 0)] = false := by decide
theorem test_wf_refuses_outside : Memory.wf [(65536, 1)] = false := by decide

/-! ### Witnesses: states and operands that meet each statement's hypotheses -/

theorem test_witness_mov_reg_reg : (.movHL, .h, .l) ∈ movRegRegRows := by decide
theorem test_witness_mov_reg_mem : (.movHM, .h) ∈ movRegMemRows := by decide
theorem test_witness_mov_mem_reg : (.movML, .l) ∈ movMemRegRows := by decide
theorem test_witness_mvi : (.mviA 0xFF, .a) ∈ mviRegRows 0xFF := by decide
theorem test_witness_lxi : (.lxiB 0x1234, .bc) ∈ lxiRows 0x1234 ∧ (.lxiSp 0xFFFF, .sp) ∈ lxiRows 0xFFFF := by decide
theorem test_witness_inr_reg : (.inrL, .l) ∈ inrRegRows := by decide
theorem test_witness_inr_mem : State.reset.readMem (State.reset.reg .h ++ State.reset.reg .l) = 0 := by decide
theorem test_witness_dcr_reg : (.dcrA, .a) ∈ dcrRegRows := by decide
theorem test_witness_dcr_mem :
    (State.reset.writeMem 0 0x10).readMem (State.reset.reg .h ++ State.reset.reg .l) = 0x10 := by decide
theorem test_witness_inx : (.inxSp, .sp) ∈ inxRows := by decide
theorem test_witness_dcx : (.dcxB, .bc) ∈ dcxRows := by decide
theorem test_witness_add : (.addM, .loc .m) ∈ addRows 0 ∧ (.adi 0x01, .imm 0x01) ∈ addRows 0x01 := by decide
theorem test_witness_adc : (.adcA, .loc (.reg .a)) ∈ adcRows 0 ∧ (.aci 0xFF, .imm 0xFF) ∈ adcRows 0xFF := by decide
theorem test_witness_sub : (.subM, .loc .m) ∈ subRows 0 ∧ (.sui 0x01, .imm 0x01) ∈ subRows 0x01 := by decide
theorem test_witness_sbb : (.sbbA, .loc (.reg .a)) ∈ sbbRows 0 ∧ (.sbi 0xFF, .imm 0xFF) ∈ sbbRows 0xFF := by decide
theorem test_witness_ana : (.anaB, .loc (.reg .b)) ∈ anaRows 0 ∧ (.ani 0x0F, .imm 0x0F) ∈ anaRows 0x0F := by decide
theorem test_witness_xra : (.xraA, .loc (.reg .a)) ∈ xraRows 0 ∧ (.xri 0xFF, .imm 0xFF) ∈ xraRows 0xFF := by decide
theorem test_witness_ora : (.oraC, .loc (.reg .c)) ∈ oraRows 0 ∧ (.ori 0x00, .imm 0x00) ∈ oraRows 0x00 := by decide
theorem test_witness_cmp : (.cmpM, .loc .m) ∈ cmpRows 0 ∧ (.cpi 0x40, .imm 0x40) ∈ cmpRows 0x40 := by decide
theorem test_witness_dad : (.dadH, .hl) ∈ dadRows ∧ (.dadSp, .sp) ∈ dadRows := by decide
/-- DecimalAdjust at 0x9A, where the low test fires and carries the high one. -/
theorem test_witness_daa :
    0xA = (0x9A : Byte).toNat % 16 ∧ 9 = (0x9A : Byte).toNat / 16 ∧
    true = (decide (0xA > 9) || State.reset.flags.ac) ∧
    true = (decide (9 > 9) || State.reset.flags.cy || (decide (9 ≥ 9) && decide (0xA > 9))) := by decide
/-- DaaAddsPackedBcd at the ends of its range. -/
theorem test_witness_bcd : (State.reset.setReg .a 0x99).reg .a = bcd 99 ∧ State.reset.reg .a = bcd 0 ∧ bcd 42 = 0x42 := by
  decide
theorem test_witness_push_pop : (.pushH, .hl) ∈ pushRows ∧ (.popB, .bc) ∈ popRows := by decide
/-- StackRoundTrips: one pair pushed and popped, and one popped into another. -/
theorem test_witness_round_trips :
    (.pushD, .de) ∈ pushRows ∧ (.popD, .de) ∈ popRows ∧ (.pushH, .hl) ∈ pushRows ∧ (.popH, .hl) ∈ popRows ∧
    (.pushB, .bc) ∈ pushRows ∧ Pair.de ≠ Pair.bc := by decide

/-- Flags with all bits set. -/
def allFlags : Flags := ⟨true, true, true, true, true⟩

theorem test_witness_jcc :
    (.jnz 0x1234, 0b000, true) ∈ jccRows 0x1234 State.reset.flags ∧ (.jnz 0x1234, 0b000, false) ∈ jccRows 0x1234 allFlags ∧
    (.jm 0, 0b111, false) ∈ jccRows 0 State.reset.flags ∧ (.jm 0, 0b111, true) ∈ jccRows 0 allFlags := by decide
theorem test_witness_ccc :
    (.cpo 0x1234, 0b100, true) ∈ cccRows 0x1234 State.reset.flags ∧
    (.cpo 0x1234, 0b100, false) ∈ cccRows 0x1234 allFlags := by decide
theorem test_witness_rcc :
    (.rnc, 0b010, true) ∈ rccRows State.reset.flags ∧ (.rnc, 0b010, false) ∈ rccRows allFlags := by decide
theorem test_witness_rst : (.rst0, 0) ∈ rstRows ∧ (.rst7, 7) ∈ rstRows := by decide

/-- What `f` gives of the state after `i`, run from `s`. -/
def after {α : Type} (i : Instr) (s : State) (f : State → α) : Option α :=
  match exec i s with
  | .next t => some (f t)
  | _ => none

/-- Ports with a value of its own in each register. -/
def portsState : State := { State.reset with ports := ⟨0x81, 0x08, 0xAB, 0xCD, 3⟩ }.setReg .a 0x0F

/-- IN on either side of each clause: ports 0, 1, 2, 3, 4 and 255. -/
theorem test_witness_in_ports :
    after (.inPort 1) portsState (·.reg .a) = some 0x81 ∧ after (.inPort 2) portsState (·.reg .a) = some 0x08 ∧
    after (.inPort 3) portsState (·.reg .a) = some 0x6D ∧
    [0, 1, 2, 3, 4, 255].map (fun p => after (.inPort p) portsState (·.draws)) =
      [some 1, some 0, some 0, some 0, some 1, some 1] := by decide
theorem test_witness_in_unmapped :
    after (.inPort 0) portsState (·.reg .a) = some (Config.unmappedIn 0 0) ∧
    after (.inPort 4) portsState (·.reg .a) = some (Config.unmappedIn 4 0) ∧
    after (.inPort 255) portsState (·.reg .a) = some (Config.unmappedIn 255 0) := ⟨rfl, rfl, rfl⟩
/-- OUT on either side of each clause: ports 1, 2, 3, 4 and 5. -/
theorem test_witness_out_ports :
    [1, 2, 3, 4, 5].map (fun p => after (.outPort p) portsState (fun t => (t.ports.shiftAmount, t.ports.shift1))) =
      [some (3, 0xCD), some (7, 0xCD), some (3, 0xCD), some (3, 0x0F), some (3, 0xCD)] ∧
    [1, 2, 3, 4, 5].map (fun p => after (.outPort p) portsState (·.outLog.length)) =
      [some 1, some 0, some 1, some 0, some 1] := by decide

theorem test_witness_runs : Runs State.reset := ⟨rfl, .inl rfl⟩
theorem test_witness_runs_faulted_nop :
    Runs { State.reset with fault := some ⟨0, 0x08⟩, cfg := { Config.default with unimplPolicy := .nop } } :=
  ⟨rfl, .inr rfl⟩
/-- EnableAndDisable: the greatest index, and the states after EI and after DI. -/
theorem test_witness_ei_di :
    7 ≤ 7 ∧ exec .ei State.reset = .next { State.reset with pc := 1, ie := true } ∧
    exec .di State.reset = .next { State.reset with pc := 1, ie := false } := ⟨by decide, rfl, rfl⟩
theorem test_witness_hlt_at_pc : Runs (code [0x76]) ∧ (code [0x76]).readMem (code [0x76]).pc = 0x76 :=
  ⟨⟨rfl, .inl rfl⟩, by decide⟩
theorem test_witness_unimplemented :
    (.unimplFD, 0xFD) ∈ unimplementedRows ∧ Runs (code [0xFD]) ∧ (code [0xFD]).readMem (code [0xFD]).pc = 0xFD :=
  ⟨by decide, ⟨rfl, .inl rfl⟩, by decide⟩
/-- EncodeOfDecode: one of each length, with bytes left over. -/
theorem test_witness_encode_of_decode :
    decode [0x00, 0x01] = .ok .nop [0x01] ∧ decode [0x06, 0x12, 0x34] = .ok (.mviB 0x12) [0x34] ∧
    decode [0xC3, 0xD4, 0x18, 0x00] = .ok (.jmp 0x18D4) [0x00] := by decide
theorem test_witness_step_runs_decoded :
    Runs (code [0xC6, 0x01]) ∧
    decode [(code [0xC6, 0x01]).readMem 0x0100, (code [0xC6, 0x01]).readMem 0x0101,
      (code [0xC6, 0x01]).readMem 0x0102] = .ok (.adi 0x01) [0x00] := ⟨⟨rfl, .inl rfl⟩, by decide⟩
/-- Both kinds of stopped state. -/
theorem test_witness_stopped :
    { State.reset with halted := true }.halted = true ∧
    { State.reset with fault := some ⟨5, 0xCB⟩ }.fault = some ⟨5, 0xCB⟩ ∧
    { State.reset with fault := some ⟨5, 0xCB⟩ }.cfg.unimplPolicy = .fatal := by decide
/-- OutcomeMatchesNextState: each outcome, and the record of a faulted state. -/
theorem test_witness_outcomes :
    stepOutcome (code [0x76]) = .halt ∧ stepOutcome (code [0x00]) = .continued ∧
    stepOutcome (code [0xD9]) = .unimplemented 0x0100 0xD9 ∧
    stepOutcome { State.reset with fault := some ⟨5, 0xCB⟩ } = .unimplemented 5 0xCB := by decide
theorem test_witness_outcome_steps :
    on (step (code [0x76])) (·.halted) = true ∧ on (step (code [0xD9])) (fun t => t.fault.isSome && !t.halted) = true ∧
    on (step { State.reset with fault := some ⟨5, 0xCB⟩ }) (fun t => !t.halted) = true := by decide
/-- StepKeepsMemoryForm: a store on a state with listed bytes. -/
theorem test_witness_step_keeps_form :
    (code [0x77] (·.setReg .a 9)).wf = true ∧ on (step (code [0x77] (·.setReg .a 9))) (fun t => t.mem.length == 2) = true := by
  decide
/-- FaultRecordNeverCleared: a schedule that answers, over a state with a record. -/
theorem test_witness_schedule :
    on (runSchedule [.step, .call (.requestInterrupt 7), .call (.writeMem 0 [0x01]), .step]
      { State.reset with fault := some ⟨5, 0xCB⟩, ie := true }) (fun t => t.fault == some ⟨5, 0xCB⟩) = true := by decide
theorem test_witness_ie_writers :
    after .ei State.reset (·.ie) = some true ∧ after .di { State.reset with ie := true } (·.ie) = some false := by decide
/-- FlagsLeftAlone: one instruction under each clause. -/
theorem test_witness_flags_left_alone :
    (writesAllFlags .cma || writesAllButCy .cma || writesCyOnly .cma) = false ∧ writesAllButCy .dcrM = true ∧
    writesCyOnly .rar = true ∧ after .cma State.reset (·.pc) = some 1 ∧ after .dcrM State.reset (·.pc) = some 1 ∧
    after .rar State.reset (·.pc) = some 1 := by decide
/-- StackPointerWriters: a push, a pop and a direct write that change sp. -/
theorem test_witness_sp_writers :
    after .rst0 State.reset (·.sp) = some 0xFFFE ∧ pushes .rst0 = true ∧ after .ret State.reset (·.sp) = some 2 ∧
    pops .ret = true ∧ after .dcxSp State.reset (·.sp) = some 0xFFFF ∧ writesSp .dcxSp = true := by decide
theorem test_witness_port_writers :
    after (.outPort 2) portsState (·.ports.shiftAmount) = some 7 ∧ after (.outPort 4) portsState (·.ports.shift0) = some 0xCD ∧
    on (requestInterrupt 7 State.reset) (·.ports == State.reset.ports) = true := by decide
/-- ShiftRegistersSeenOnlyByIn3: two states that differ in the shift registers. -/
theorem test_witness_shift_registers :
    Instr.outPort 4 ≠ Instr.inPort 3 ∧ { portsState with ports := ⟨0x81, 0x08, 1, 2, 5⟩ }.ports.in1 = portsState.ports.in1 ∧
    { portsState with ports := ⟨0x81, 0x08, 1, 2, 5⟩ } ≠ portsState ∧
    after (.outPort 4) portsState (·.pc) = some 2 := by decide
theorem test_witness_no_store : stores .cmpM = false ∧ after .cmpM State.reset (·.pc) = some 1 ∧ stores .pushB = true := by
  decide
/-- MemoryReadsAndWrites: two canonical states that read alike, written in different orders. -/
theorem test_witness_same_memory :
    ((State.reset.writeMem 1 7).writeMem 0 9).wf = true ∧ ((State.reset.writeMem 0 9).writeMem 1 7).wf = true ∧
    SameMem ((State.reset.writeMem 1 7).writeMem 0 9) ((State.reset.writeMem 0 9).writeMem 1 7) :=
  ⟨by decide, by decide, fun _ => rfl⟩
theorem test_witness_accepts : 7 ≤ 7 ∧ Accepts (boundary true) := ⟨by decide, rfl, .inl rfl, .inl rfl⟩
theorem test_witness_accepts_halted :
    Accepts { boundary true with halted := true, cfg := { Config.default with haltPolicy := .wakeOnInterrupt } } :=
  ⟨rfl, .inr rfl, .inl rfl⟩
theorem test_witness_refused_index : 7 < 8 := by decide
/-- DroppedInterrupt: each of its three cases with the others false. -/
theorem test_witness_dropped :
    7 ≤ 7 ∧ (boundary false).ie = false ∧ { boundary true with halted := true }.cfg.haltPolicy = .terminal ∧
    { boundary true with fault := some ⟨5, 0xCB⟩ }.fault ≠ none ∧
    { boundary true with fault := some ⟨5, 0xCB⟩ }.cfg.unimplPolicy = .fatal := by decide
theorem test_witness_interrupt_as_rst :
    (.rst7, 7) ∈ rstRows ∧ Accepts (boundary true) ∧ (boundary true).halted = false ∧
    (boundary true).cfg.ackClearsIE = false := ⟨by decide, ⟨rfl, .inl rfl, .inl rfl⟩, rfl, rfl⟩
/-- TwoRequestsAtOneBoundary: both values of ACK_CLEARS_IE. -/
theorem test_witness_two_requests :
    0 ≤ 7 ∧ 7 ≤ 7 ∧ Accepts (boundary true) ∧ (boundary true).cfg.ackClearsIE = false ∧
    Accepts { boundary true with cfg := { Config.default with ackClearsIE := true } } :=
  ⟨by decide, by decide, ⟨rfl, .inl rfl, .inl rfl⟩, rfl, ⟨rfl, .inl rfl, .inl rfl⟩⟩
theorem test_witness_host_bytes : [0x11, 0xDB, 0x01].length ≤ 65536 := by decide
theorem test_witness_pairs_differ : Pair.de ≠ Pair.bc := by decide

end Sys2Proof.Tests
end

section
/-! SUPPORT. The 256 rows run 52 shared meanings: which of them an instruction runs, said once, with the one next
state each answers. An invariant over instructions is proved over the meanings, one case for each. -/

namespace Sys2Proof.Machine

/-- The shared meanings of 41 to 49 with their operands; each is run by the `do` function of its name. -/
inductive Meaning where
  | nop
  | halt
  | mov (dst src : Loc)
  | mvi (dst : Loc) (v : Byte)
  | lxi (p : Pair) (v : Word)
  | lda (a : Word)
  | sta (a : Word)
  | lhld (a : Word)
  | shld (a : Word)
  | ldax (p : Pair)
  | stax (p : Pair)
  | inr (o : Loc)
  | dcr (o : Loc)
  | inx (p : Pair)
  | dcx (p : Pair)
  | add (x : Src)
  | adc (x : Src)
  | sub (x : Src)
  | sbb (x : Src)
  | ana (x : Src)
  | xra (x : Src)
  | ora (x : Src)
  | cmp (x : Src)
  | dad (p : Pair)
  | cma
  | stc
  | cmc
  | rlc
  | rrc
  | ral
  | rar
  | daa
  | push (p : Pair)
  | pushPsw
  | pop (p : Pair)
  | popPsw
  | sphl
  | jmp (a : Word)
  | jcc (cc : Cond) (a : Word)
  | call (a : Word)
  | ccc (cc : Cond) (a : Word)
  | ret
  | rcc (cc : Cond)
  | rst (n : BitVec 3)
  | pchl
  | xchg
  | xthl
  | inp (p : Byte)
  | out (p : Byte)
  | ei
  | di
  | unimplemented (opcode : Byte)

/-- What a meaning answers. -/
def Meaning.run : Meaning → State → Result
  | .nop => doNop
  | .halt => doHalt
  | .mov dst src => doMov dst src
  | .mvi dst v => doMvi dst v
  | .lxi p v => doLxi p v
  | .lda a => doLda a
  | .sta a => doSta a
  | .lhld a => doLhld a
  | .shld a => doShld a
  | .ldax p => doLdax p
  | .stax p => doStax p
  | .inr o => doInr o
  | .dcr o => doDcr o
  | .inx p => doInx p
  | .dcx p => doDcx p
  | .add x => doAdd x
  | .adc x => doAdc x
  | .sub x => doSub x
  | .sbb x => doSbb x
  | .ana x => doAna x
  | .xra x => doXra x
  | .ora x => doOra x
  | .cmp x => doCmp x
  | .dad p => doDad p
  | .cma => doCma
  | .stc => doStc
  | .cmc => doCmc
  | .rlc => doRlc
  | .rrc => doRrc
  | .ral => doRal
  | .rar => doRar
  | .daa => doDaa
  | .push p => doPush p
  | .pushPsw => doPushPsw
  | .pop p => doPop p
  | .popPsw => doPopPsw
  | .sphl => doSphl
  | .jmp a => doJmp a
  | .jcc cc a => doJcc cc a
  | .call a => doCall a
  | .ccc cc a => doCcc cc a
  | .ret => doRet
  | .rcc cc => doRcc cc
  | .rst n => doRst n
  | .pchl => doPchl
  | .xchg => doXchg
  | .xthl => doXthl
  | .inp p => doIn p
  | .out p => doOut p
  | .ei => doEi
  | .di => doDi
  | .unimplemented opcode => doUnimplemented opcode

/-- The meaning an instruction runs (R87, R102). -/
def meaning : Instr → Meaning
  | .nop => .nop
  | .lxiB d16 => .lxi .bc d16
  | .staxB => .stax .bc
  | .inxB => .inx .bc
  | .inrB => .inr (.reg .b)
  | .dcrB => .dcr (.reg .b)
  | .mviB d8 => .mvi (.reg .b) d8
  | .rlc => .rlc
  | .dadB => .dad .bc
  | .ldaxB => .ldax .bc
  | .dcxB => .dcx .bc
  | .inrC => .inr (.reg .c)
  | .dcrC => .dcr (.reg .c)
  | .mviC d8 => .mvi (.reg .c) d8
  | .rrc => .rrc
  | .lxiD d16 => .lxi .de d16
  | .staxD => .stax .de
  | .inxD => .inx .de
  | .inrD => .inr (.reg .d)
  | .dcrD => .dcr (.reg .d)
  | .mviD d8 => .mvi (.reg .d) d8
  | .ral => .ral
  | .dadD => .dad .de
  | .ldaxD => .ldax .de
  | .dcxD => .dcx .de
  | .inrE => .inr (.reg .e)
  | .dcrE => .dcr (.reg .e)
  | .mviE d8 => .mvi (.reg .e) d8
  | .rar => .rar
  | .lxiH d16 => .lxi .hl d16
  | .shld a16 => .shld a16
  | .inxH => .inx .hl
  | .inrH => .inr (.reg .h)
  | .dcrH => .dcr (.reg .h)
  | .mviH d8 => .mvi (.reg .h) d8
  | .daa => .daa
  | .dadH => .dad .hl
  | .lhld a16 => .lhld a16
  | .dcxH => .dcx .hl
  | .inrL => .inr (.reg .l)
  | .dcrL => .dcr (.reg .l)
  | .mviL d8 => .mvi (.reg .l) d8
  | .cma => .cma
  | .lxiSp d16 => .lxi .sp d16
  | .sta a16 => .sta a16
  | .inxSp => .inx .sp
  | .inrM => .inr .m
  | .dcrM => .dcr .m
  | .mviM d8 => .mvi .m d8
  | .stc => .stc
  | .dadSp => .dad .sp
  | .lda a16 => .lda a16
  | .dcxSp => .dcx .sp
  | .inrA => .inr (.reg .a)
  | .dcrA => .dcr (.reg .a)
  | .mviA d8 => .mvi (.reg .a) d8
  | .cmc => .cmc
  | .movBB => .mov (.reg .b) (.reg .b)
  | .movBC => .mov (.reg .b) (.reg .c)
  | .movBD => .mov (.reg .b) (.reg .d)
  | .movBE => .mov (.reg .b) (.reg .e)
  | .movBH => .mov (.reg .b) (.reg .h)
  | .movBL => .mov (.reg .b) (.reg .l)
  | .movBM => .mov (.reg .b) .m
  | .movBA => .mov (.reg .b) (.reg .a)
  | .movCB => .mov (.reg .c) (.reg .b)
  | .movCC => .mov (.reg .c) (.reg .c)
  | .movCD => .mov (.reg .c) (.reg .d)
  | .movCE => .mov (.reg .c) (.reg .e)
  | .movCH => .mov (.reg .c) (.reg .h)
  | .movCL => .mov (.reg .c) (.reg .l)
  | .movCM => .mov (.reg .c) .m
  | .movCA => .mov (.reg .c) (.reg .a)
  | .movDB => .mov (.reg .d) (.reg .b)
  | .movDC => .mov (.reg .d) (.reg .c)
  | .movDD => .mov (.reg .d) (.reg .d)
  | .movDE => .mov (.reg .d) (.reg .e)
  | .movDH => .mov (.reg .d) (.reg .h)
  | .movDL => .mov (.reg .d) (.reg .l)
  | .movDM => .mov (.reg .d) .m
  | .movDA => .mov (.reg .d) (.reg .a)
  | .movEB => .mov (.reg .e) (.reg .b)
  | .movEC => .mov (.reg .e) (.reg .c)
  | .movED => .mov (.reg .e) (.reg .d)
  | .movEE => .mov (.reg .e) (.reg .e)
  | .movEH => .mov (.reg .e) (.reg .h)
  | .movEL => .mov (.reg .e) (.reg .l)
  | .movEM => .mov (.reg .e) .m
  | .movEA => .mov (.reg .e) (.reg .a)
  | .movHB => .mov (.reg .h) (.reg .b)
  | .movHC => .mov (.reg .h) (.reg .c)
  | .movHD => .mov (.reg .h) (.reg .d)
  | .movHE => .mov (.reg .h) (.reg .e)
  | .movHH => .mov (.reg .h) (.reg .h)
  | .movHL => .mov (.reg .h) (.reg .l)
  | .movHM => .mov (.reg .h) .m
  | .movHA => .mov (.reg .h) (.reg .a)
  | .movLB => .mov (.reg .l) (.reg .b)
  | .movLC => .mov (.reg .l) (.reg .c)
  | .movLD => .mov (.reg .l) (.reg .d)
  | .movLE => .mov (.reg .l) (.reg .e)
  | .movLH => .mov (.reg .l) (.reg .h)
  | .movLL => .mov (.reg .l) (.reg .l)
  | .movLM => .mov (.reg .l) .m
  | .movLA => .mov (.reg .l) (.reg .a)
  | .movMB => .mov .m (.reg .b)
  | .movMC => .mov .m (.reg .c)
  | .movMD => .mov .m (.reg .d)
  | .movME => .mov .m (.reg .e)
  | .movMH => .mov .m (.reg .h)
  | .movML => .mov .m (.reg .l)
  | .hlt => .halt
  | .movMA => .mov .m (.reg .a)
  | .movAB => .mov (.reg .a) (.reg .b)
  | .movAC => .mov (.reg .a) (.reg .c)
  | .movAD => .mov (.reg .a) (.reg .d)
  | .movAE => .mov (.reg .a) (.reg .e)
  | .movAH => .mov (.reg .a) (.reg .h)
  | .movAL => .mov (.reg .a) (.reg .l)
  | .movAM => .mov (.reg .a) .m
  | .movAA => .mov (.reg .a) (.reg .a)
  | .addB => .add (.loc (.reg .b))
  | .addC => .add (.loc (.reg .c))
  | .addD => .add (.loc (.reg .d))
  | .addE => .add (.loc (.reg .e))
  | .addH => .add (.loc (.reg .h))
  | .addL => .add (.loc (.reg .l))
  | .addM => .add (.loc .m)
  | .addA => .add (.loc (.reg .a))
  | .adcB => .adc (.loc (.reg .b))
  | .adcC => .adc (.loc (.reg .c))
  | .adcD => .adc (.loc (.reg .d))
  | .adcE => .adc (.loc (.reg .e))
  | .adcH => .adc (.loc (.reg .h))
  | .adcL => .adc (.loc (.reg .l))
  | .adcM => .adc (.loc .m)
  | .adcA => .adc (.loc (.reg .a))
  | .subB => .sub (.loc (.reg .b))
  | .subC => .sub (.loc (.reg .c))
  | .subD => .sub (.loc (.reg .d))
  | .subE => .sub (.loc (.reg .e))
  | .subH => .sub (.loc (.reg .h))
  | .subL => .sub (.loc (.reg .l))
  | .subM => .sub (.loc .m)
  | .subA => .sub (.loc (.reg .a))
  | .sbbB => .sbb (.loc (.reg .b))
  | .sbbC => .sbb (.loc (.reg .c))
  | .sbbD => .sbb (.loc (.reg .d))
  | .sbbE => .sbb (.loc (.reg .e))
  | .sbbH => .sbb (.loc (.reg .h))
  | .sbbL => .sbb (.loc (.reg .l))
  | .sbbM => .sbb (.loc .m)
  | .sbbA => .sbb (.loc (.reg .a))
  | .anaB => .ana (.loc (.reg .b))
  | .anaC => .ana (.loc (.reg .c))
  | .anaD => .ana (.loc (.reg .d))
  | .anaE => .ana (.loc (.reg .e))
  | .anaH => .ana (.loc (.reg .h))
  | .anaL => .ana (.loc (.reg .l))
  | .anaM => .ana (.loc .m)
  | .anaA => .ana (.loc (.reg .a))
  | .xraB => .xra (.loc (.reg .b))
  | .xraC => .xra (.loc (.reg .c))
  | .xraD => .xra (.loc (.reg .d))
  | .xraE => .xra (.loc (.reg .e))
  | .xraH => .xra (.loc (.reg .h))
  | .xraL => .xra (.loc (.reg .l))
  | .xraM => .xra (.loc .m)
  | .xraA => .xra (.loc (.reg .a))
  | .oraB => .ora (.loc (.reg .b))
  | .oraC => .ora (.loc (.reg .c))
  | .oraD => .ora (.loc (.reg .d))
  | .oraE => .ora (.loc (.reg .e))
  | .oraH => .ora (.loc (.reg .h))
  | .oraL => .ora (.loc (.reg .l))
  | .oraM => .ora (.loc .m)
  | .oraA => .ora (.loc (.reg .a))
  | .cmpB => .cmp (.loc (.reg .b))
  | .cmpC => .cmp (.loc (.reg .c))
  | .cmpD => .cmp (.loc (.reg .d))
  | .cmpE => .cmp (.loc (.reg .e))
  | .cmpH => .cmp (.loc (.reg .h))
  | .cmpL => .cmp (.loc (.reg .l))
  | .cmpM => .cmp (.loc .m)
  | .cmpA => .cmp (.loc (.reg .a))
  | .rnz => .rcc .nz
  | .popB => .pop .bc
  | .jnz a16 => .jcc .nz a16
  | .jmp a16 => .jmp a16
  | .cnz a16 => .ccc .nz a16
  | .pushB => .push .bc
  | .adi d8 => .add (.imm d8)
  | .rst0 => .rst 0
  | .rz => .rcc .z
  | .ret => .ret
  | .jz a16 => .jcc .z a16
  | .cz a16 => .ccc .z a16
  | .call a16 => .call a16
  | .aci d8 => .adc (.imm d8)
  | .rst1 => .rst 1
  | .rnc => .rcc .nc
  | .popD => .pop .de
  | .jnc a16 => .jcc .nc a16
  | .outPort p8 => .out p8
  | .cnc a16 => .ccc .nc a16
  | .pushD => .push .de
  | .sui d8 => .sub (.imm d8)
  | .rst2 => .rst 2
  | .rc => .rcc .c
  | .jc a16 => .jcc .c a16
  | .inPort p8 => .inp p8
  | .cc a16 => .ccc .c a16
  | .sbi d8 => .sbb (.imm d8)
  | .rst3 => .rst 3
  | .rpo => .rcc .po
  | .popH => .pop .hl
  | .jpo a16 => .jcc .po a16
  | .xthl => .xthl
  | .cpo a16 => .ccc .po a16
  | .pushH => .push .hl
  | .ani d8 => .ana (.imm d8)
  | .rst4 => .rst 4
  | .rpe => .rcc .pe
  | .pchl => .pchl
  | .jpe a16 => .jcc .pe a16
  | .xchg => .xchg
  | .cpe a16 => .ccc .pe a16
  | .xri d8 => .xra (.imm d8)
  | .rst5 => .rst 5
  | .rp => .rcc .p
  | .popPsw => .popPsw
  | .jp a16 => .jcc .p a16
  | .di => .di
  | .cp a16 => .ccc .p a16
  | .pushPsw => .pushPsw
  | .ori d8 => .ora (.imm d8)
  | .rst6 => .rst 6
  | .rm => .rcc .m
  | .sphl => .sphl
  | .jm a16 => .jcc .m a16
  | .ei => .ei
  | .cm a16 => .ccc .m a16
  | .cpi d8 => .cmp (.imm d8)
  | .rst7 => .rst 7
  | .unimpl08 => .unimplemented 0x08
  | .unimpl10 => .unimplemented 0x10
  | .unimpl18 => .unimplemented 0x18
  | .unimpl20 => .unimplemented 0x20
  | .unimpl28 => .unimplemented 0x28
  | .unimpl30 => .unimplemented 0x30
  | .unimpl38 => .unimplemented 0x38
  | .unimplCB => .unimplemented 0xCB
  | .unimplD9 => .unimplemented 0xD9
  | .unimplDD => .unimplemented 0xDD
  | .unimplED => .unimplemented 0xED
  | .unimplFD => .unimplemented 0xFD

/-- The dispatcher runs the instruction's meaning. -/
theorem exec_eq_run (i : Instr) (s : State) : exec i s = (meaning i).run s := by
  cases i <;> rfl

/-- The next state a meaning answers; by `Meaning.run_eq` it always answers one. -/
def Meaning.next (m : Meaning) (s : State) : State :=
  match m.run s with
  | .next t => t
  | .fault _ | .refused _ => s

theorem Meaning.run_eq (m : Meaning) (s : State) : m.run s = .next (m.next s) := by
  cases m <;> rfl

/-- Every instruction answers one next state, its meaning's (R105). -/
theorem exec_eq_next (i : Instr) (s : State) : exec i s = .next ((meaning i).next s) :=
  (exec_eq_run i s).trans ((meaning i).run_eq s)

/-- What is known of the next state of an instruction: it is its meaning's. -/
theorem eq_next_of_exec {i : Instr} {s t : State} (h : exec i s = .next t) : t = (meaning i).next s :=
  (Host.Outcome.next.inj ((exec_eq_next i s).symm.trans h)).symm

/-! The conditional meanings (R103): the effect of the unconditional one, or the pc's advance alone. -/

theorem Meaning.next_jcc (cc : Cond) (a : Word) (s : State) :
    (Meaning.jcc cc a).next s = if cc.holds s.flags then (Meaning.jmp a).next s else s.advance 3 := rfl

theorem Meaning.next_ccc (cc : Cond) (a : Word) (s : State) :
    (Meaning.ccc cc a).next s = if cc.holds s.flags then (Meaning.call a).next s else s.advance 3 := rfl

theorem Meaning.next_rcc (cc : Cond) (s : State) :
    (Meaning.rcc cc).next s = if cc.holds s.flags then Meaning.ret.next s else s.advance 1 := rfl

end Sys2Proof.Machine
end

section
/-! SUPPORT. What each meaning does to one piece of the state: memory's form, IE, sp and the port registers. -/

namespace Sys2Proof.Machine

variable (s : State)

/-! ### The ALU's write-back (R114)

A proof by `rfl` about SUB, SBB or CMP has the kernel compare the difference with the old registers and flags,
which is slow; these lemmas say it of any ALU result. -/

@[simp] theorem State.setArith_ie (r : AluResult) : (s.setArith r).ie = s.ie := rfl
@[simp] theorem State.setArith_sp (r : AluResult) : (s.setArith r).sp = s.sp := rfl

/-! ### IN and OUT (R300, R303 to R306) -/

/-- IN changes the count of the host's answers at most. -/
theorem State.afterIn_eq (p : Byte) : s.afterIn p = { s with draws := (s.afterIn p).draws } := by
  unfold State.afterIn
  split <;> rfl

@[simp] theorem State.afterIn_ie (p : Byte) : (s.afterIn p).ie = s.ie := by rw [afterIn_eq]
@[simp] theorem State.afterIn_sp (p : Byte) : (s.afterIn p).sp = s.sp := by rw [afterIn_eq]

/-- OUT changes the port registers and the host's events at most. -/
theorem State.machineOut_eq (p v : Byte) :
    s.machineOut p v = { s with ports := (s.machineOut p v).ports, outLog := (s.machineOut p v).outLog } := by
  unfold State.machineOut
  split_ifs <;> rfl

@[simp] theorem State.machineOut_ie (p v : Byte) : (s.machineOut p v).ie = s.ie := by rw [machineOut_eq]
@[simp] theorem State.machineOut_sp (p v : Byte) : (s.machineOut p v).sp = s.sp := by rw [machineOut_eq]

/-- OUT leaves the host's input port 1 alone (R301). -/
@[simp] theorem State.machineOut_in1 (p v : Byte) : (s.machineOut p v).ports.in1 = s.ports.in1 := by
  unfold State.machineOut
  split_ifs <;> rfl

/-- OUT leaves the host's input port 2 alone (R301). -/
@[simp] theorem State.machineOut_in2 (p v : Byte) : (s.machineOut p v).ports.in2 = s.ports.in2 := by
  unfold State.machineOut
  split_ifs <;> rfl

/-! ### Memory's canonical form -/

variable {s} in
theorem Meaning.run_steady : ∀ m : Meaning, Steady s (m.run s)
  | .nop => doNop_steady
  | .halt => doHalt_steady
  | .mov dst src => doMov_steady dst src
  | .mvi dst v => doMvi_steady dst v
  | .lxi p v => doLxi_steady p v
  | .lda a => doLda_steady a
  | .sta a => doSta_steady a
  | .lhld a => doLhld_steady a
  | .shld a => doShld_steady a
  | .ldax p => doLdax_steady p
  | .stax p => doStax_steady p
  | .inr o => doInr_steady o
  | .dcr o => doDcr_steady o
  | .inx p => doInx_steady p
  | .dcx p => doDcx_steady p
  | .add x => doAdd_steady x
  | .adc x => doAdc_steady x
  | .sub x => doSub_steady x
  | .sbb x => doSbb_steady x
  | .ana x => doAna_steady x
  | .xra x => doXra_steady x
  | .ora x => doOra_steady x
  | .cmp x => doCmp_steady x
  | .dad p => doDad_steady p
  | .cma => doCma_steady
  | .stc => doStc_steady
  | .cmc => doCmc_steady
  | .rlc => doRlc_steady
  | .rrc => doRrc_steady
  | .ral => doRal_steady
  | .rar => doRar_steady
  | .daa => doDaa_steady
  | .push p => doPush_steady p
  | .pushPsw => doPushPsw_steady
  | .pop p => doPop_steady p
  | .popPsw => doPopPsw_steady
  | .sphl => doSphl_steady
  | .jmp a => doJmp_steady a
  | .jcc cc a => doJcc_steady cc a
  | .call a => doCall_steady a
  | .ccc cc a => doCcc_steady cc a
  | .ret => doRet_steady
  | .rcc cc => doRcc_steady cc
  | .rst n => doRst_steady n
  | .pchl => doPchl_steady
  | .xchg => doXchg_steady
  | .xthl => doXthl_steady
  | .inp p => doIn_steady p
  | .out p => doOut_steady p
  | .ei => doEi_steady
  | .di => doDi_steady
  | .unimplemented opcode => doUnimplemented_steady opcode

variable {s} in
/-- A step keeps memory's form, the parameters and a recorded fault: a stopped state stays, any other runs a meaning. -/
theorem step_steady : Steady s (step s) := by
  unfold step
  split
  · exact .intro id rfl rfl
  · rw [exec_eq_run]
    exact Meaning.run_steady _

/-! ### IE (R28) -/

/-- Only EI and DI write IE. -/
theorem Meaning.next_ie {m : Meaning} (hei : m ≠ .ei) (hdi : m ≠ .di) : (m.next s).ie = s.ie := by
  cases m with
  | ei => exact absurd rfl hei
  | di => exact absurd rfl hdi
  | sub _ | sbb _ => exact State.setArith_ie _ _
  | cmp _ => exact State.setFlags_ie _ _
  | mov o _ | mvi o _ | inr o | dcr o => exact State.writeLoc_ie _ o _
  | lxi p _ | inx p | dcx p | pop p => exact State.setPair_ie _ p _
  | jcc cc a => rw [next_jcc]; split <;> rfl
  | ccc cc a => rw [next_ccc]; split <;> rfl
  | rcc cc => rw [next_rcc]; split <;> rfl
  | inp p => exact State.afterIn_ie _ p
  | out p => exact State.machineOut_ie _ p _
  | _ => rfl

/-! ### The stack pointer (R25) -/

/-- The meanings that may push. -/
def Meaning.pushes : Meaning → Bool
  | .push _ | .pushPsw | .call _ | .ccc _ _ | .rst _ => true
  | _ => false

/-- The meanings that may pop into something other than sp. -/
def Meaning.pops : Meaning → Bool
  | .pop .sp => false
  | .pop _ | .popPsw | .ret | .rcc _ => true
  | _ => false

/-- The meanings that write sp as their destination; no instruction pops into it. -/
def Meaning.writesSp : Meaning → Bool
  | .lxi .sp _ | .inx .sp | .dcx .sp | .pop .sp | .sphl => true
  | _ => false

theorem pushes_meaning (i : Instr) : (meaning i).pushes = Claims.pushes i := by cases i <;> rfl
theorem pops_meaning (i : Instr) : (meaning i).pops = Claims.pops i := by cases i <;> rfl
theorem writesSp_meaning (i : Instr) : (meaning i).writesSp = Claims.writesSp i := by cases i <;> rfl

/-- A push leaves sp two lower, a pop two higher, a write of sp anywhere, and everything else keeps it. -/
theorem Meaning.next_sp (m : Meaning) :
    (m.next s).sp = s.sp ∨ m.pushes = true ∧ (m.next s).sp = s.sp - 2 ∨
      m.pops = true ∧ (m.next s).sp = s.sp + 2 ∨ m.writesSp = true := by
  cases m with
  | push _ | pushPsw | rst _ => exact .inr (.inl ⟨rfl, State.push16_sp (s.advance 1) _⟩)
  | call _ => exact .inr (.inl ⟨rfl, State.push16_sp (s.advance 3) _⟩)
  | ccc cc a =>
    rw [next_ccc]
    split
    · exact .inr (.inl ⟨rfl, State.push16_sp (s.advance 3) _⟩)
    · exact .inl rfl
  | popPsw | ret => exact .inr (.inr (.inl ⟨rfl, rfl⟩))
  | rcc cc =>
    rw [next_rcc]
    split
    · exact .inr (.inr (.inl ⟨rfl, rfl⟩))
    · exact .inl rfl
  | pop p =>
    cases p with
    | sp => exact .inr (.inr (.inr rfl))
    | _ => exact .inr (.inr (.inl ⟨rfl, rfl⟩))
  | lxi p _ | inx p | dcx p =>
    cases p with
    | sp => exact .inr (.inr (.inr rfl))
    | _ => exact .inl rfl
  | sphl => exact .inr (.inr (.inr rfl))
  | sub _ | sbb _ => exact .inl (State.setArith_sp _ _)
  | cmp _ => exact .inl (State.setFlags_sp _ _)
  | mov o _ | mvi o _ | inr o | dcr o => exact .inl (State.writeLoc_sp _ o _)
  | jcc cc a => rw [next_jcc]; split <;> exact .inl rfl
  | inp p => exact .inl (State.afterIn_sp _ p)
  | out p => exact .inl (State.machineOut_sp _ p _)
  | _ => exact .inl rfl

/-! ### The shift registers (R32) -/

/-- `s` with the port registers `q`. -/
def State.withPorts (q : Ports) : State := { s with ports := q }

theorem State.afterIn_withPorts (q : Ports) (p : Byte) :
    (s.withPorts q).afterIn p = (s.afterIn p).withPorts q := by
  unfold State.afterIn
  split <;> rfl

variable {s} in
/-- IN from a port other than 3 reads the same where the input ports agree. -/
theorem State.machineIn_withPorts {q : Ports} {p : Byte} (h1 : q.in1 = s.ports.in1) (h2 : q.in2 = s.ports.in2)
    (hp : p ≠ 3) : (s.withPorts q).machineIn p = s.machineIn p := by
  simp only [State.machineIn, State.withPorts, h1, h2, if_neg hp]

/-- What OUT leaves of a state with other ports differs in the ports only from what it leaves of the state. -/
theorem State.machineOut_withPorts (q : Ports) (p v : Byte) :
    (s.withPorts q).machineOut p v = (s.machineOut p v).withPorts ((s.withPorts q).machineOut p v).ports := by
  unfold State.machineOut
  split_ifs <;> rfl

variable {s} in
/-- A meaning that is neither OUT nor IN 3 commutes with a change of the shift registers: it does not read them. -/
theorem Meaning.next_withPorts {q : Ports} {m : Meaning} (h1 : q.in1 = s.ports.in1) (h2 : q.in2 = s.ports.in2)
    (hin : m ≠ .inp 3) (hout : ∀ p, m ≠ .out p) : m.next (s.withPorts q) = (m.next s).withPorts q := by
  cases m with
  | out p => exact absurd rfl (hout p)
  | inp p =>
    have hp : p ≠ 3 := fun e => hin (congrArg Meaning.inp e)
    have hread := State.machineIn_withPorts (s := s.advance 2) h1 h2 hp
    exact congrArg₂ (fun t v => State.setReg t .a v) (State.afterIn_withPorts (s.advance 2) q p) hread
  | mov o _ | mvi o _ | inr o | dcr o => cases o <;> rfl
  | lxi p _ | inx p | dcx p | pop p => cases p <;> rfl
  | jcc cc a => simp only [next_jcc, apply_ite (State.withPorts · q)]; rfl
  | ccc cc a => simp only [next_ccc, apply_ite (State.withPorts · q)]; rfl
  | rcc cc => simp only [next_rcc, apply_ite (State.withPorts · q)]; rfl
  | _ => rfl

/-- `s'` differs from `s` in the shift registers at most. -/
def DiffersInShift (s s' : State) : Prop :=
  s'.ports.in1 = s.ports.in1 ∧ s'.ports.in2 = s.ports.in2 ∧ s' = s.withPorts s'.ports

variable {s} in
/-- After OUT two such states still differ in the shift registers at most. -/
theorem DiffersInShift.machineOut {s' : State} (h : DiffersInShift s s') (p v : Byte) :
    DiffersInShift (s.machineOut p v) (s'.machineOut p v) := by
  obtain ⟨h1, h2, hs⟩ := h
  refine ⟨by simpa using h1, by simpa using h2, ?_⟩
  rw [hs]
  exact s.machineOut_withPorts s'.ports p v

variable {s} in
/-- No meaning but IN 3 lets a difference in the shift registers reach anything else: OUT writes them alike, and
any other commutes with the change. -/
theorem Meaning.next_differsInShift {s' : State} {m : Meaning} (h : DiffersInShift s s') (hin : m ≠ .inp 3) :
    DiffersInShift (m.next s) (m.next s') := by
  obtain ⟨h1, h2, hs⟩ := h
  generalize s'.ports = q at h1 h2 hs
  subst hs
  by_cases hout : ∃ p, m = .out p
  · obtain ⟨p, rfl⟩ := hout
    have hfetched : DiffersInShift (s.advance 2) ((s.withPorts q).advance 2) := ⟨h1, h2, rfl⟩
    exact hfetched.machineOut p (s.reg .a)
  · have hout := not_exists.mp hout
    have hself : m.next s = (m.next s).withPorts s.ports := next_withPorts (q := s.ports) rfl rfl hin hout
    have hports : (m.next s).ports = s.ports := by rw [hself]; rfl
    rw [next_withPorts h1 h2 hin hout]
    exact ⟨hports ▸ h1, hports ▸ h2, rfl⟩

end Sys2Proof.Machine
end

section
/-! The state family (10_state): memory's form, the shift registers, IE, sp, reset and the register pairs. -/

namespace Sys2Proof.Claims

open Sys2Proof.Machine

/-- An instruction whose meaning is EI is EI. -/
theorem eq_ei_of_meaning {i : Instr} (h : meaning i = .ei) : i = .ei := by
  cases i <;> cases h
  rfl

/-- An instruction whose meaning is DI is DI. -/
theorem eq_di_of_meaning {i : Instr} (h : meaning i = .di) : i = .di := by
  cases i <;> cases h
  rfl

/-- An instruction whose meaning is IN from `p` is IN from `p`. -/
theorem eq_inPort_of_meaning {i : Instr} {p : Byte} (h : meaning i = .inp p) : i = .inPort p := by
  cases i <;> cases h
  rfl

theorem setsPair_setPair (p : Pair) (v : Word) (s : State) : SetsPair p v s (s.setPair p v) := by
  cases p <;> exact ⟨rfl, fun q => by cases q <;> rfl⟩

/-- Settles O45: a stopped state stays, and the meaning any other state runs keeps the form (`step_steady`). -/
theorem stepKeepsMemoryForm : Obligations.StepKeepsMemoryForm := by
  intro s t hs hstep
  obtain ⟨u, hu, hform, -, -⟩ := step_steady (s := s)
  obtain rfl : u = t := Host.Outcome.next.inj (hu.symm.trans hstep)
  exact hform hs

/-- Settles O52: two states that differ in the shift registers at most stay such under every meaning but IN 3. -/
theorem shiftRegistersSeenOnlyByIn3 : Obligations.ShiftRegistersSeenOnlyByIn3 := by
  intro i s s' t hi h1 h2 hs ht
  obtain rfl := eq_next_of_exec ht
  have hin : meaning i ≠ .inp 3 := fun e => hi (eq_inPort_of_meaning e)
  obtain ⟨g1, g2, hnext⟩ := Meaning.next_differsInShift ⟨h1, h2, hs⟩ hin
  exact ⟨_, exec_eq_next i s', hnext, g1, g2⟩

/-- Settles O48: no meaning but those of EI and DI writes IE. -/
theorem onlyEiAndDiWriteIe : Obligations.OnlyEiAndDiWriteIe := by
  intro i s t ht hie
  obtain rfl := eq_next_of_exec ht
  by_cases hei : meaning i = .ei
  · exact .inl ⟨eq_ei_of_meaning hei, by rw [hei]; rfl⟩
  by_cases hdi : meaning i = .di
  · exact .inr ⟨eq_di_of_meaning hdi, by rw [hdi]; rfl⟩
  · exact absurd (Meaning.next_ie s hei hdi) hie

/-- Settles O50: the four things a meaning can do to sp (`Meaning.next_sp`). -/
theorem stackPointerWriters : Obligations.StackPointerWriters := by
  intro i s t ht hsp
  obtain rfl := eq_next_of_exec ht
  rw [← pushes_meaning, ← pops_meaning, ← writesSp_meaning]
  exact (Meaning.next_sp s (meaning i)).resolve_left hsp

/-- Settles O46: each field as R37 gives it; with nothing loaded every address is unlisted. -/
theorem resetState : Obligations.ResetState :=
  ⟨fun q => by cases q <;> rfl, rfl, rfl, rfl, rfl, rfl, rfl, rfl, rfl, rfl, rfl, rfl, fun _ => rfl, rfl⟩

/-- Settles O60: the reads are the definition of a pair; the writes by the laws of `setPair`. -/
theorem registerPairs : Obligations.RegisterPairs := fun s =>
  ⟨rfl, rfl, rfl, rfl, fun p v =>
    ⟨setsPair_setPair p v s, s.pair_setPair_same p v, fun q h => s.pair_setPair_ne p q v h⟩⟩

end Sys2Proof.Claims
end

section
/-! SUPPORT. Which meanings write memory, and what a 16-bit access leaves in memory and reads of it. -/

namespace Sys2Proof.Machine

variable (s : State)

/-! ### What leaves memory alone (R57, R58) -/

@[simp] theorem State.setArith_mem (r : AluResult) : (s.setArith r).mem = s.mem := rfl
@[simp] theorem State.afterIn_mem (p : Byte) : (s.afterIn p).mem = s.mem := by rw [afterIn_eq]
@[simp] theorem State.machineOut_mem (p v : Byte) : (s.machineOut p v).mem = s.mem := by rw [machineOut_eq]

/-- The meanings that may write memory: those with the operand M as destination, the stores, XTHL, and what pushes. -/
def Meaning.stores : Meaning → Bool
  | .mov .m _ | .mvi .m _ | .inr .m | .dcr .m | .sta _ | .shld _ | .stax _ | .xthl => true
  | m => m.pushes

theorem stores_meaning (i : Instr) : (meaning i).stores = Claims.stores i := by cases i <;> rfl

variable {s} in
/-- A meaning that neither stores nor pushes leaves memory the same data. -/
theorem Meaning.next_mem {m : Meaning} (h : m.stores = false) : (m.next s).mem = s.mem := by
  cases m with
  | sta _ | shld _ | stax _ | xthl | push _ | pushPsw | call _ | ccc _ _ | rst _ => cases h
  | mov o _ | mvi o _ | inr o | dcr o =>
    cases o with
    | reg r => rfl
    | m => cases h
  | lxi p _ | inx p | dcx p | pop p => exact State.setPair_mem _ p _
  | sub _ | sbb _ => exact State.setArith_mem _ _
  | cmp _ => exact State.setFlags_mem _ _
  | jcc cc a => rw [next_jcc]; split <;> rfl
  | rcc cc => rw [next_rcc]; split <;> rfl
  | inp p => exact State.afterIn_mem _ p
  | out p => exact State.machineOut_mem _ p _
  | _ => rfl

variable {s} in
/-- States that hold the same memory read alike at every address. -/
theorem sameMem_of_mem_eq {t : State} (h : t.mem = s.mem) : SameMem s t := fun a =>
  congrArg (Memory.read · a.toNat) h

/-! ### 16-bit accesses (R53, R55) -/

/-- The two bytes of a word lie at different addresses, so the order of their writes is not seen. -/
theorem storesWord_writeMem16 (a v : Word) : StoresWord a v s (s.writeMem16 a v) := by
  intro x
  rw [State.readMem_writeMem16]
  by_cases hx : x = a
  · have hne : x ≠ a + 1 := hx ▸ (Word.add_one_ne a).symm
    rw [if_neg hne, if_pos hx, if_pos hx]
  · rw [if_neg hx, if_neg hx]

/-- Reading a word gives back the word written there. -/
theorem State.readMem16_writeMem16 (a v : Word) : (s.writeMem16 a v).readMem16 a = v := by
  have hlow : (s.writeMem16 a v).readMem a = v.extractLsb' 0 8 := by
    rw [storesWord_writeMem16, if_pos rfl]
  have hhigh : (s.writeMem16 a v).readMem (a + 1) = v.extractLsb' 8 8 := by
    rw [readMem_writeMem16, if_pos rfl]
  rw [readMem16, hlow, hhigh, word_of_bytes]

end Sys2Proof.Machine
end

section
/-! The memory family (20_memory): which instructions write memory, and what reads see of writes. -/

namespace Sys2Proof.Claims

open Sys2Proof.Machine

/-- Settles O53: the meaning of such an instruction leaves memory the same data (`Meaning.next_mem`). -/
theorem onlyStoringInstructionsWriteMemory : Obligations.OnlyStoringInstructionsWriteMemory := by
  intro i s t ht hi
  obtain rfl := eq_next_of_exec ht
  have hm : (meaning i).stores = false := (stores_meaning i).trans hi
  exact sameMem_of_mem_eq (Meaning.next_mem hm)

/-- Settles O54: the laws of a byte's and a word's write; canonical memories are determined by their reads. -/
theorem memoryReadsAndWrites : Obligations.MemoryReadsAndWrites := by
  intro s a
  refine ⟨fun v x => s.readMem_writeMem a x v, fun v => ⟨?_, ?_⟩, rfl, fun t hs ht hread => ?_⟩
  · exact storesWord_writeMem16 s a v
  · exact s.readMem16_writeMem16 a v
  · exact State.mem_ext_of_wf ht hs hread

end Sys2Proof.Claims
end

section
/-! SUPPORT. What the decoder makes of each opcode byte: its row of the map takes no operand, a byte or a word. -/

namespace Sys2Proof

open Machine

/-- `i` stands in the row of the opcode byte `op` (R86, R87), with any operand. Each kind of row says which bytes
the encoder makes of the row's instructions, and what the decoder makes of the bytes after `op`. -/
inductive OpcodeRow (op : Byte) : Instr → Prop
  | noOperand {i : Instr} (hformat : i.format = .f1) (hencode : encode i = [op])
      (hdecode : ∀ b1 b2, decode3 op b1 b2 = i) : OpcodeRow op i
  | byteOperand {f : Byte → Instr} (d : Byte) (hformat : ∀ d, (f d).format = .f2)
      (hencode : ∀ d, encode (f d) = [op, d]) (hdecode : ∀ b1 b2, decode3 op b1 b2 = f b1) : OpcodeRow op (f d)
  | wordOperand {f : Word → Instr} (v : Word) (hformat : ∀ v, (f v).format = .f3)
      (hencode : ∀ v, encode (f v) = [op, lowByte v, highByte v])
      (hdecode : ∀ b1 b2, decode3 op b1 b2 = f (b2 ++ b1)) : OpcodeRow op (f v)

/-- Every instruction stands in a row; the two lists are those of R86. -/
theorem exists_opcodeRow (i : Instr) : ∃ op, OpcodeRow op i := by
  cases i with
  | mviB d | mviC d | mviD d | mviE d | mviH d | mviL d | mviM d | mviA d | adi d | aci d | sui d | sbi d | ani d
  | xri d | ori d | cpi d | inPort d | outPort d =>
    exact ⟨_, .byteOperand d (fun _ => rfl) (fun _ => rfl) fun _ _ => rfl⟩
  | lxiB v | lxiD v | lxiH v | lxiSp v | shld v | lhld v | sta v | lda v | jmp v | jnz v | jz v | jnc v | jc v
  | jpo v | jpe v | jp v | jm v | call v | cnz v | cz v | cnc v | cc v | cpo v | cpe v | cp v | cm v =>
    exact ⟨_, .wordOperand v (fun _ => rfl) (fun _ => rfl) fun _ _ => rfl⟩
  | _ => exact ⟨_, .noOperand rfl rfl fun _ _ => rfl⟩

variable {op : Byte} {i : Instr} {bytes rest : List Byte}

/-- An encoding begins with the opcode of the instruction's row (R80). -/
theorem OpcodeRow.head?_encode (h : OpcodeRow op i) : (encode i).head? = some op := by
  cases h with
  | noOperand _ hencode _ => rw [hencode]; rfl
  | byteOperand _ _ hencode _ => rw [hencode]; rfl
  | wordOperand _ _ hencode _ => rw [hencode]; rfl

/-- Every opcode byte has its row (R89): the map has each of the 256 bytes at its place. -/
theorem opcodeRow_decode3 (op : Byte) : OpcodeRow op (decode3 op 0 0) := by
  have hop : (encode (decode3 op 0 0)).head? = some op := by revert op; decide +kernel
  obtain ⟨op', hrow⟩ := exists_opcodeRow (decode3 op 0 0)
  obtain rfl : op' = op := Option.some.inj (hrow.head?_encode.symm.trans hop)
  exact hrow

/-! ### Decoding in each kind of row -/

theorem decode_noOperand_iff {j : Instr} (hformat : j.format = .f1) (hdecode : ∀ b1 b2, decode3 op b1 b2 = j) :
    decode (op :: bytes) = .ok i rest ↔ j = i ∧ bytes = rest := by
  simp [decode, hdecode, hformat]

theorem decode_byteOperand_iff {f : Byte → Instr} (hformat : ∀ d, (f d).format = .f2)
    (hdecode : ∀ b1 b2, decode3 op b1 b2 = f b1) :
    decode (op :: bytes) = .ok i rest ↔ ∃ d, f d = i ∧ bytes = d :: rest := by
  rcases bytes with _ | ⟨b1, bytes⟩ <;> simp [decode, hdecode, hformat, and_comm]

theorem decode_wordOperand_iff {f : Word → Instr} (hformat : ∀ v, (f v).format = .f3)
    (hdecode : ∀ b1 b2, decode3 op b1 b2 = f (b2 ++ b1)) :
    decode (op :: bytes) = .ok i rest ↔ ∃ v, f v = i ∧ bytes = lowByte v :: highByte v :: rest := by
  rcases bytes with _ | ⟨b1, _ | ⟨b2, bytes⟩⟩
  · simp [decode, hdecode, hformat]
  · simp [decode, hdecode, hformat]
  · simp only [decode, hdecode, hformat, DecodeResult.ok.injEq, List.cons.injEq]
    constructor
    · rintro ⟨hi, hrest⟩
      exact ⟨b2 ++ b1, hi, (low_of_append b2 b1).symm, (high_of_append b2 b1).symm, hrest⟩
    · rintro ⟨v, hi, rfl, rfl, hrest⟩
      exact ⟨by rw [← hi]; exact congrArg f (word_of_bytes v), hrest⟩

/-- An instruction's bytes decode to it: in its row the decoder reads back the operand the encoder wrote. -/
theorem OpcodeRow.decode_encode (h : OpcodeRow op i) : decode (encode i ++ rest) = .ok i rest := by
  cases h with
  | noOperand hformat hencode hdecode =>
    rw [hencode]
    exact (decode_noOperand_iff hformat hdecode).mpr ⟨rfl, rfl⟩
  | byteOperand d hformat hencode hdecode =>
    rw [hencode]
    exact (decode_byteOperand_iff hformat hdecode).mpr ⟨d, rfl, rfl⟩
  | wordOperand v hformat hencode hdecode =>
    rw [hencode]
    exact (decode_wordOperand_iff hformat hdecode).mpr ⟨v, rfl, rfl⟩

/-- What decodes in the row of `op`, which `j` names, is its own encoding and the rest: no bit is dropped. -/
theorem OpcodeRow.eq_encode_append {j : Instr} (hj : OpcodeRow op j) (h : decode (op :: bytes) = .ok i rest) :
    op :: bytes = encode i ++ rest := by
  cases hj with
  | noOperand hformat hencode hdecode =>
    obtain ⟨rfl, rfl⟩ := (decode_noOperand_iff hformat hdecode).mp h
    rw [hencode]; rfl
  | byteOperand _ hformat hencode hdecode =>
    obtain ⟨d, rfl, rfl⟩ := (decode_byteOperand_iff hformat hdecode).mp h
    rw [hencode]; rfl
  | wordOperand _ hformat hencode hdecode =>
    obtain ⟨v, rfl, rfl⟩ := (decode_wordOperand_iff hformat hdecode).mp h
    rw [hencode]; rfl

/-! ### What the opcode byte alone decides -/

/-- An opcode byte and two more always decode, and what is left is what the opcode's length leaves (R86). -/
theorem decode_cons_cons_cons (op b1 b2 : Byte) (rest : List Byte) :
    decode (op :: b1 :: b2 :: rest) =
      .ok (decode3 op b1 b2) ((op :: b1 :: b2 :: rest).drop (opcodeLength op)) := by
  have hrow := opcodeRow_decode3 op
  have hlength : opcodeLength op = (decode3 op 0 0).format.length := rfl
  generalize decode3 op 0 0 = j at hrow hlength
  cases hrow with
  | noOperand hformat _ hdecode => simp [decode, hdecode, hformat, hlength, Format.length]
  | byteOperand _ hformat _ hdecode => simp [decode, hdecode, hformat, hlength, Format.length]
  | wordOperand _ hformat _ hdecode => simp [decode, hdecode, hformat, hlength, Format.length]

theorem opcodeLength_eq (op : Byte) :
    opcodeLength op =
      if op ∈ Claims.threeByteOpcodes then 3 else if op ∈ Claims.twoByteOpcodes then 2 else 1 := by
  revert op; decide +kernel

/-- A row with no instruction is one byte long (R88). -/
theorem format_of_not_wellFormed (h : i.wellFormed = false) : i.format = .f1 := by
  cases i <;> cases h <;> rfl

theorem wellFormed_of_format_ne (h : i.format ≠ .f1) : i.wellFormed = true :=
  eq_true_of_ne_false (h ∘ format_of_not_wellFormed)

/-- Whether a row is an instruction does not depend on the operand bytes. -/
theorem wellFormed_decode3 (op b1 b2 : Byte) : (decode3 op b1 b2).wellFormed = (decode3 op 0 0).wellFormed := by
  have hrow := opcodeRow_decode3 op
  generalize decode3 op 0 0 = j at hrow
  cases hrow with
  | noOperand _ _ hdecode => rw [hdecode]
  | byteOperand _ hformat _ hdecode => simp [hdecode, hformat, wellFormed_of_format_ne]
  | wordOperand _ hformat _ hdecode => simp [hdecode, hformat, wellFormed_of_format_ne]

end Sys2Proof
end

section
/-! The encoding family (30_encoding): decoder and encoder agree, and the opcode byte decides the length. -/

namespace Sys2Proof.Claims

/-- Settles O36: every instruction stands in a row of the map, and in each kind of row the decoder puts back together
the operand bytes the encoder writes (`OpcodeRow.decode_encode`). -/
theorem decodeOfEncode : Obligations.DecodeOfEncode := by
  intro i rest
  obtain ⟨op, hrow⟩ := exists_opcodeRow i
  exact hrow.decode_encode

/-- Settles O37: the first byte has a row, and no row drops a bit (`OpcodeRow.eq_encode_append`). -/
theorem encodeOfDecode : Obligations.EncodeOfDecode := by
  intro bytes rest i h
  cases bytes with
  | nil => cases h
  | cons op bytes => exact (opcodeRow_decode3 op).eq_encode_append h

/-- Settles O38: the operand bytes do not matter (`wellFormed_decode3`), and the 256 opcode bytes are checked. -/
theorem twelveBytesHaveNoInstruction : Obligations.TwelveBytesHaveNoInstruction := by
  intro op b1 b2
  rw [wellFormed_decode3]
  revert op
  decide +kernel

/-- Settles O39: what is left is what the opcode's length leaves, and that length is R86's. -/
theorem lengthByOpcode : Obligations.LengthByOpcode := by
  intro op b1 b2 rest
  refine ⟨decode3 op b1 b2, ?_⟩
  rw [decode_cons_cons_cons, opcodeLength_eq]
  split_ifs <;> rfl

/-- Settles O40: the decoder run on each of the fifteen lists of bytes. -/
theorem sampleWordsDecode : Obligations.SampleWordsDecode := by
  unfold Obligations.SampleWordsDecode
  decide

end Sys2Proof.Claims
end

section
/-! SUPPORT. Which flags each meaning writes (R119), and what it does to the halt bit and the fault record: the
outcome R104 gives a step is read off the meaning it runs. -/

namespace Sys2Proof.Machine

variable (s : State)

/-! ### Flags, the halt bit and the fault record under the shared operations -/

@[simp] theorem State.afterIn_flags (p : Byte) : (s.afterIn p).flags = s.flags := by rw [afterIn_eq]
@[simp] theorem State.machineOut_flags (p v : Byte) : (s.machineOut p v).flags = s.flags := by rw [machineOut_eq]

@[simp] theorem State.setArith_halted (r : AluResult) : (s.setArith r).halted = s.halted := rfl
@[simp] theorem State.afterIn_halted (p : Byte) : (s.afterIn p).halted = s.halted := by rw [afterIn_eq]
@[simp] theorem State.machineOut_halted (p v : Byte) : (s.machineOut p v).halted = s.halted := by rw [machineOut_eq]

@[simp] theorem State.setArith_fault (r : AluResult) : (s.setArith r).fault = s.fault := rfl
@[simp] theorem State.afterIn_fault (p : Byte) : (s.afterIn p).fault = s.fault := by rw [afterIn_eq]
@[simp] theorem State.machineOut_fault (p v : Byte) : (s.machineOut p v).fault = s.fault := by rw [machineOut_eq]

/-! ### The rows of R119 -/

/-- The meanings that write all five flags. -/
def Meaning.writesAllFlags : Meaning → Bool
  | .add _ | .adc _ | .sub _ | .sbb _ | .ana _ | .xra _ | .ora _ | .cmp _ | .daa | .popPsw => true
  | _ => false

/-- The meanings that write every flag but CY. -/
def Meaning.writesAllButCy : Meaning → Bool
  | .inr _ | .dcr _ => true
  | _ => false

/-- The meanings that write CY only. -/
def Meaning.writesCyOnly : Meaning → Bool
  | .dad _ | .rlc | .rrc | .ral | .rar | .stc | .cmc => true
  | _ => false

theorem writesAllFlags_meaning (i : Instr) : (meaning i).writesAllFlags = Claims.writesAllFlags i := by
  cases i <;> rfl
theorem writesAllButCy_meaning (i : Instr) : (meaning i).writesAllButCy = Claims.writesAllButCy i := by
  cases i <;> rfl
theorem writesCyOnly_meaning (i : Instr) : (meaning i).writesCyOnly = Claims.writesCyOnly i := by
  cases i <;> rfl

/-- A meaning in none of the three rows changes no flag. -/
theorem Meaning.next_flags {m : Meaning} (hall : m.writesAllFlags = false) (hbut : m.writesAllButCy = false)
    (honly : m.writesCyOnly = false) : (m.next s).flags = s.flags := by
  cases m with
  | add _ | adc _ | sub _ | sbb _ | ana _ | xra _ | ora _ | cmp _ | daa | popPsw => cases hall
  | inr _ | dcr _ => cases hbut
  | dad _ | rlc | rrc | ral | rar | stc | cmc => cases honly
  | mov o _ | mvi o _ => exact State.writeLoc_flags _ o _
  | lxi p _ | inx p | dcx p | pop p => exact State.setPair_flags _ p _
  | jcc cc a => rw [next_jcc]; split <;> rfl
  | ccc cc a => rw [next_ccc]; split <;> rfl
  | rcc cc => rw [next_rcc]; split <;> rfl
  | inp p => exact State.afterIn_flags _ p
  | out p => exact State.machineOut_flags _ p _
  | _ => rfl

/-- INR and DCR keep CY (R115). -/
theorem Meaning.next_cy {m : Meaning} (h : m.writesAllButCy = true) : (m.next s).flags.cy = s.flags.cy := by
  cases m with
  | inr _ | dcr _ => rfl
  | _ => cases h

/-- A meaning that writes CY only is a write of CY to a state with the old flags. -/
theorem Meaning.next_onlyCy {m : Meaning} (h : m.writesCyOnly = true) :
    Claims.OnlyCy (m.next s).flags.cy s.flags (m.next s).flags := by
  cases m with
  | dad _ | rlc | rrc | ral | rar | stc | cmc => exact ⟨rfl, rfl, rfl, rfl, rfl⟩
  | _ => cases h

/-! ### The halt bit (R131) and the fault record (R330) -/

variable {s}

/-- Only HLT writes the halt bit, and only a byte with no instruction writes the fault record. -/
theorem Meaning.next_halted_fault {m : Meaning} (hhalt : m ≠ .halt) (hraise : ∀ o, m ≠ .unimplemented o) :
    (m.next s).halted = s.halted ∧ (m.next s).fault = s.fault := by
  cases m with
  | halt => exact absurd rfl hhalt
  | unimplemented o => exact absurd rfl (hraise o)
  | sub _ | sbb _ => exact ⟨State.setArith_halted _ _, State.setArith_fault _ _⟩
  | cmp _ => exact ⟨State.setFlags_halted _ _, State.setFlags_fault _ _⟩
  | mov o _ | mvi o _ | inr o | dcr o => exact ⟨State.writeLoc_halted _ o _, State.writeLoc_fault _ o _⟩
  | lxi p _ | inx p | dcx p | pop p => exact ⟨State.setPair_halted _ p _, State.setPair_fault _ p _⟩
  | jcc cc a => rw [next_jcc]; split <;> exact ⟨rfl, rfl⟩
  | ccc cc a => rw [next_ccc]; split <;> exact ⟨rfl, rfl⟩
  | rcc cc => rw [next_rcc]; split <;> exact ⟨rfl, rfl⟩
  | inp p => exact ⟨State.afterIn_halted _ p, State.afterIn_fault _ p⟩
  | out p => exact ⟨State.machineOut_halted _ p _, State.machineOut_fault _ p _⟩
  | _ => exact ⟨rfl, rfl⟩

theorem Meaning.next_halted {m : Meaning} (hm : m ≠ .halt) : (m.next s).halted = s.halted := by
  by_cases hraise : ∃ o, m = .unimplemented o
  · obtain ⟨o, rfl⟩ := hraise
    rfl
  · exact (next_halted_fault hm (not_exists.mp hraise)).1

theorem Meaning.next_fault {m : Meaning} (hm : ∀ o, m ≠ .unimplemented o) : (m.next s).fault = s.fault := by
  by_cases hhalt : m = .halt
  · subst hhalt
    rfl
  · exact (next_halted_fault hhalt hm).2

/-- The next state of a state that is not halted is halted exactly when the meaning is HLT's. -/
theorem Meaning.next_halted_iff {m : Meaning} (hs : s.halted = false) : (m.next s).halted = true ↔ m = .halt := by
  constructor
  · intro ht
    by_contra hm
    rw [next_halted hm, hs] at ht
    cases ht
  · rintro rfl
    rfl

/-- Where no fault was recorded, the next state holds a record exactly when the meaning raises it at pc. -/
theorem Meaning.next_fault_iff {m : Meaning} (hs : s.fault = none) (a : Word) (o : Byte) :
    (m.next s).fault = some { addr := a, opcode := o } ↔ a = s.pc ∧ m = .unimplemented o := by
  by_cases hm : ∃ o', m = .unimplemented o'
  · obtain ⟨o', rfl⟩ := hm
    have hraised : ((Meaning.unimplemented o').next s).fault = some { addr := s.pc, opcode := o' } :=
      State.raiseUnimplemented_fault_none o' hs
    simp [hraised, eq_comm]
  · have hm := not_exists.mp hm
    simp [next_fault hm, hs, hm o]

/-! ### The outcome (R104) -/

/-- The outcome of a step that runs the meaning at the address `a`. -/
def Meaning.outcome (a : Word) : Meaning → StepOutcome
  | .halt => .halt
  | .unimplemented o => .unimplemented a o
  | _ => .continued

theorem Meaning.outcome_eq_halt_iff {m : Meaning} {a : Word} : m.outcome a = .halt ↔ m = .halt := by
  cases m <;> simp [outcome]

theorem Meaning.outcome_eq_continued {m : Meaning} {a : Word} (hhalt : m ≠ .halt)
    (hraise : ∀ o, m ≠ .unimplemented o) : m.outcome a = .continued := by
  cases m with
  | halt => exact absurd rfl hhalt
  | unimplemented o => exact absurd rfl (hraise o)
  | _ => rfl

theorem Meaning.outcome_eq_unimplemented_iff {m : Meaning} {a b : Word} {o : Byte} :
    m.outcome a = .unimplemented b o ↔ b = a ∧ m = .unimplemented o := by
  cases m <;> simp [outcome, eq_comm]

/-- An instruction whose meaning is HLT's is HLT. -/
theorem eq_hlt_of_meaning {i : Instr} (h : meaning i = .halt) : i = .hlt := by
  cases i <;> cases h
  rfl

/-- An instruction that raises Unimplemented with the byte `o` is the row of `o`, one of the twelve (R88). -/
theorem mem_unimplementedRows_of_meaning {i : Instr} {o : Byte} (h : meaning i = .unimplemented o) :
    (i, o) ∈ Claims.unimplementedRows := by
  cases i <;> cases h <;> decide

end Sys2Proof.Machine
end

section
/-! SUPPORT. The step and its outcome, said once for each of the three kinds of state: halted, faulted under
`Fatal`, running. -/

namespace Sys2Proof.Claims

open Sys2Proof.Machine

/-! ### What the opcode byte says of the meaning -/

/-- An encoding of what was decoded begins with the opcode byte that was decoded (R80). -/
theorem head?_encode_decode3 (op b1 b2 : Byte) : (encode (decode3 op b1 b2)).head? = some op := by
  have hrow := opcodeRow_decode3 op
  generalize decode3 op 0 0 = j at hrow
  cases hrow with
  | noOperand _ hencode hdecode => rw [hdecode, hencode]; rfl
  | byteOperand _ _ hencode hdecode => rw [hdecode, hencode]; rfl
  | wordOperand _ _ hencode hdecode => rw [hdecode, hencode]; rfl

theorem unimplementedOpcodes_eq : unimplementedOpcodes = unimplementedRows.map Prod.snd := rfl

theorem mem_unimplementedOpcodes_iff (o : Byte) : o ∈ unimplementedOpcodes ↔ ∃ i, (i, o) ∈ unimplementedRows := by
  simp only [unimplementedOpcodes_eq, List.mem_map, Prod.exists, exists_eq_right]

/-- Each row with no instruction is encoded as its one byte (R88). -/
theorem encode_of_mem_unimplementedRows : ∀ row ∈ unimplementedRows, encode row.1 = [row.2] := by
  decide

/-- The twelve bytes decode to the rows that raise Unimplemented with that byte, whatever follows. -/
theorem meaning_decode3_of_mem {op : Byte} (h : op ∈ unimplementedOpcodes) (b1 b2 : Byte) :
    meaning (decode3 op b1 b2) = .unimplemented op := by
  simp only [unimplementedOpcodes, List.mem_cons, List.not_mem_nil, or_false] at h
  rcases h with rfl | rfl | rfl | rfl | rfl | rfl | rfl | rfl | rfl | rfl | rfl | rfl <;> rfl

/-- Only 0x76 decodes to HLT. -/
theorem eq_hltByte_of_meaning_decode3 {op b1 b2 : Byte} (h : meaning (decode3 op b1 b2) = .halt) : op = 0x76 := by
  have hop := head?_encode_decode3 op b1 b2
  rw [eq_hlt_of_meaning h] at hop
  exact (Option.some.inj hop).symm

/-- What decodes to a row that raises Unimplemented begins with one of the twelve bytes. -/
theorem mem_of_meaning_decode3 {op b1 b2 o : Byte} (h : meaning (decode3 op b1 b2) = .unimplemented o) :
    op ∈ unimplementedOpcodes := by
  have hop := head?_encode_decode3 op b1 b2
  have hrow := mem_unimplementedRows_of_meaning h
  rw [encode_of_mem_unimplementedRows _ hrow] at hop
  obtain rfl : o = op := Option.some.inj hop
  exact (mem_unimplementedOpcodes_iff o).mpr ⟨_, hrow⟩

/-- The outcome of a decoded meaning depends on the opcode byte as R104 says. -/
theorem outcome_meaning_decode3 (op b1 b2 : Byte) (a : Word) :
    (meaning (decode3 op b1 b2)).outcome a =
      if op ∈ unimplementedOpcodes then .unimplemented a op else if op = 0x76 then .halt else .continued := by
  split_ifs with hraise hhalt
  · rw [meaning_decode3_of_mem hraise]; rfl
  · subst hhalt; rfl
  · exact Meaning.outcome_eq_continued (fun h => hhalt (eq_hltByte_of_meaning_decode3 h))
      fun o h => hraise (mem_of_meaning_decode3 h)

/-! ### The three kinds of state (R106) -/

variable {s : State}

theorem halted_or_faulted_or_runs (s : State) :
    s.halted = true ∨ (s.halted = false ∧ ∃ f, s.fault = some f ∧ s.cfg.unimplPolicy = .fatal) ∨ Runs s := by
  cases hh : s.halted with
  | true => exact .inl rfl
  | false =>
    cases hf : s.fault with
    | none => exact .inr (.inr ⟨hh, .inl hf⟩)
    | some f =>
      cases hp : s.cfg.unimplPolicy with
      | fatal => exact .inr (.inl ⟨rfl, f, rfl, rfl⟩)
      | nop => exact .inr (.inr ⟨hh, .inr hp⟩)

theorem step_of_halted (h : s.halted = true) : step s = .next s :=
  if_pos (by simp [State.stopped, h])

theorem step_of_faulted {f : FaultRecord} (hf : s.fault = some f) (hp : s.cfg.unimplPolicy = .fatal) :
    step s = .next s :=
  if_pos (by simp [State.stopped, State.faulted, hf, hp])

theorem step_of_runs (h : Runs s) : step s = exec (fetchInstr s) s := by
  obtain ⟨hh, hf⟩ := h
  refine if_neg ?_
  rcases hf with hf | hp
  · simp [State.stopped, State.faulted, hh, hf]
  · simp [State.stopped, State.faulted, hh, hp]

theorem stepOutcome_of_halted (h : s.halted = true) : stepOutcome s = .halt :=
  if_pos h

theorem stepOutcome_of_faulted {f : FaultRecord} (hh : s.halted = false) (hf : s.fault = some f)
    (hp : s.cfg.unimplPolicy = .fatal) : stepOutcome s = .unimplemented f.addr f.opcode := by
  simp [stepOutcome, hh, hf, hp]

theorem stepOutcome_of_runs (h : Runs s) :
    stepOutcome s =
      if s.readMem s.pc ∈ unimplementedOpcodes then .unimplemented s.pc (s.readMem s.pc)
      else if s.readMem s.pc = 0x76 then .halt else .continued := by
  obtain ⟨hh, hf | hp⟩ := h
  · simp [stepOutcome, hh, hf]
  · cases hf : s.fault <;> simp [stepOutcome, hh, hf, hp]

/-- The outcome of a running state is that of the meaning its step runs. -/
theorem stepOutcome_eq_outcome (h : Runs s) : stepOutcome s = (meaning (fetchInstr s)).outcome s.pc := by
  rw [stepOutcome_of_runs h, fetchInstr, outcome_meaning_decode3]

/-! ### The outcome against the next state (R104) -/

variable {t : State}

/-- The outcome is Halt exactly when the next state is halted (R104). -/
theorem stepOutcome_eq_halt_iff (h : step s = .next t) : stepOutcome s = .halt ↔ t.halted = true := by
  rcases halted_or_faulted_or_runs s with hh | ⟨hh, f, hf, hp⟩ | hr
  · obtain rfl : s = t := Host.Outcome.next.inj ((step_of_halted hh).symm.trans h)
    simp [stepOutcome_of_halted hh, hh]
  · obtain rfl : s = t := Host.Outcome.next.inj ((step_of_faulted hf hp).symm.trans h)
    simp [stepOutcome_of_faulted hh hf hp, hh]
  · obtain rfl := eq_next_of_exec ((step_of_runs hr).symm.trans h)
    rw [stepOutcome_eq_outcome hr, Meaning.outcome_eq_halt_iff, Meaning.next_halted_iff hr.1]

/-- A running state raises Unimplemented exactly for a fetched byte of the twelve (R330). -/
theorem stepOutcome_eq_unimplemented_iff (hr : Runs s) (a : Word) (o : Byte) :
    stepOutcome s = .unimplemented a o ↔
      a = s.pc ∧ o = s.readMem s.pc ∧ ∃ i, (i, o) ∈ unimplementedRows := by
  rw [stepOutcome_of_runs hr, ← mem_unimplementedOpcodes_iff]
  constructor
  · intro h
    split_ifs at h with hop
    cases h
    exact ⟨rfl, rfl, hop⟩
  · rintro ⟨rfl, rfl, hop⟩
    exact if_pos hop

/-- Where no fault was recorded, Unimplemented is exactly the record the step leaves (R330). -/
theorem stepOutcome_eq_unimplemented_iff_fault (hr : Runs s) (hf : s.fault = none) (h : step s = .next t) (a : Word)
    (o : Byte) : stepOutcome s = .unimplemented a o ↔ t.fault = some { addr := a, opcode := o } := by
  obtain rfl := eq_next_of_exec ((step_of_runs hr).symm.trans h)
  rw [stepOutcome_eq_outcome hr, Meaning.outcome_eq_unimplemented_iff, Meaning.next_fault_iff hf]

end Sys2Proof.Claims
end

section
/-! The dispatch family (40_dispatch_alu): the step, its outcome, and the flags an instruction leaves alone. -/

namespace Sys2Proof.Claims

open Sys2Proof.Machine

/-- Settles O43: a stopped state stays; in a running one both outcome and next state are the fetched meaning's. -/
theorem outcomeMatchesNextState : Obligations.OutcomeMatchesNextState := by
  intro s t h
  refine ⟨stepOutcome_eq_halt_iff h, fun ht f hf hp => ?_, stepOutcome_eq_unimplemented_iff,
    fun hr hf => stepOutcome_eq_unimplemented_iff_fault hr hf h⟩
  obtain rfl : s = t := Host.Outcome.next.inj ((step_of_faulted hf hp).symm.trans h)
  exact stepOutcome_of_faulted ht hf hp

/-- Settles O49: each row of R119 is a class of meanings, with what it writes said for the class. -/
theorem flagsLeftAlone : Obligations.FlagsLeftAlone := by
  intro i s t h
  obtain rfl := eq_next_of_exec h
  rw [← writesAllFlags_meaning, ← writesAllButCy_meaning, ← writesCyOnly_meaning]
  exact ⟨Meaning.next_flags s, Meaning.next_cy s, Meaning.next_onlyCy s⟩

/-- Settles O41: three bytes always decode, to what the step fetches (`decode_cons_cons_cons`). -/
theorem stepRunsDecoded : Obligations.StepRunsDecoded := by
  intro s hr
  rw [decode_cons_cons_cons]
  refine ⟨⟨_, _, rfl⟩, ?_⟩
  rintro i rest ⟨⟩
  exact step_of_runs hr

/-- Settles O42: the step and the outcome of a halted state, and of a state faulted under Fatal. -/
theorem stoppedStateStays : Obligations.StoppedStateStays := fun _ =>
  ⟨fun hh => ⟨step_of_halted hh, stepOutcome_of_halted hh⟩,
    fun _ hh hf hp => ⟨step_of_faulted hf hp, stepOutcome_of_faulted hh hf hp⟩⟩

/-- Settles O44: every instruction answers its meaning's next state, and a step answers that or the state itself. -/
theorem stepIsTotal : Obligations.StepIsTotal := by
  refine ⟨fun i s => ⟨_, exec_eq_next i s⟩, fun s => ?_⟩
  obtain ⟨t, ht, -⟩ := step_steady (s := s)
  exact ⟨t, ht⟩

end Sys2Proof.Claims
end

section
/-! The no-op and halt family (41_nop_halt): NOP, and HLT with the steps that run it and follow it. -/

namespace Sys2Proof.Claims

open Sys2Proof.Machine

variable {s : State}

/-- Passing over an instruction of `n` bytes changes the pc alone. -/
theorem onlyPc_advance (n : Nat) : OnlyPc (s.pc + BitVec.ofNat 16 n) s (s.advance n) :=
  ⟨rfl, rfl, rfl, fun _ => rfl, sameMem_of_mem_eq rfl, ⟨rfl, rfl, rfl, rfl, rfl, rfl, rfl⟩⟩

theorem exec_nop : exec .nop s = .next (s.advance 1) := rfl

theorem exec_hlt : exec .hlt s = .next { s with pc := s.pc + 1, halted := true } := rfl

/-- The byte 0x76 alone decides that HLT is fetched, whatever the two bytes after it are. -/
theorem fetchInstr_eq_hlt (h : s.readMem s.pc = 0x76) : fetchInstr s = .hlt := by
  rw [fetchInstr, h]
  rfl

theorem step_eq_of_hltByte (hr : Runs s) (h : s.readMem s.pc = 0x76) :
    step s = .next { s with pc := s.pc + 1, halted := true } := by
  rw [step_of_runs hr, fetchInstr_eq_hlt h, exec_hlt]

/-- Settles O34: the step at a byte 0x76 is HLT's, its outcome Halt because the next state is halted, and a
halted state stays. -/
theorem nopAndHalt : Obligations.NopAndHalt := by
  refine ⟨rfl, rfl, fun s => ⟨⟨_, exec_nop, onlyPc_advance 1⟩, exec_hlt, fun hr hbyte => ?_⟩⟩
  have hstep := step_eq_of_hltByte hr hbyte
  exact ⟨_, hstep, rfl, (stepOutcome_eq_halt_iff hstep).mpr rfl, step_of_halted rfl, stepOutcome_of_halted rfl⟩

end Sys2Proof.Claims
end

section
/-! SUPPORT. The move, load and store meanings: how their instructions are encoded, the next state of each, and
what a load of a register and a store of a byte leave alone. -/

namespace Sys2Proof.Claims

open Sys2Proof.Machine

variable {i : Instr} {s t : State} {n : Word}

/-! ### Encodings (R81, R82, R87)

The codes here are those of operands (`Loc.code`); a use for a register's code elaborates the lemma on its own first,
`(… :)`, because unifying the two codes with the operand still open unfolds the bit vectors. -/

/-- MOV is `01DDDSSS`, the code 110 in a field being the operand M's. -/
theorem encode_of_meaning_mov {dst src : Loc} (h : meaning i = .mov dst src) :
    encode i = [opByte 0b01 dst.code src.code] := by
  cases i <;> cases h <;> rfl

/-- MVI is `00DDD110` and the immediate. -/
theorem encode_of_meaning_mvi {dst : Loc} {v : Byte} (h : meaning i = .mvi dst v) :
    encode i = [opByte 0b00 dst.code 0b110, v] := by
  cases i <;> cases h <;> rfl

/-- LXI is `00RP0001` and the immediate, low byte first. -/
theorem encode_of_meaning_lxi {p : Pair} {v : Word} (h : meaning i = .lxi p v) :
    encode i = [opPair 0b00 p.code 0b0001, v.extractLsb' 0 8, v.extractLsb' 8 8] := by
  cases i <;> cases h <;> rfl

/-! ### The meanings of the tables -/

theorem meaning_of_mem_movRegRegRows :
    ∀ row ∈ movRegRegRows, meaning row.1 = .mov (.reg row.2.1) (.reg row.2.2) :=
  List.map_inj_left.mp rfl

theorem meaning_of_mem_movRegMemRows : ∀ row ∈ movRegMemRows, meaning row.1 = .mov (.reg row.2) .m :=
  List.map_inj_left.mp rfl

theorem meaning_of_mem_movMemRegRows : ∀ row ∈ movMemRegRows, meaning row.1 = .mov .m (.reg row.2) :=
  List.map_inj_left.mp rfl

theorem meaning_of_mem_mviRegRows (v : Byte) : ∀ row ∈ mviRegRows v, meaning row.1 = .mvi (.reg row.2) v :=
  List.map_inj_left.mp rfl

theorem meaning_of_mem_lxiRows (v : Word) : ∀ row ∈ lxiRows v, meaning row.1 = .lxi row.2 v :=
  List.map_inj_left.mp rfl

/-! ### Next states -/

theorem exec_of_meaning_mov_reg {dst : Reg} {src : Loc} (h : meaning i = .mov (.reg dst) src) :
    exec i s = .next ((s.advance 1).setReg dst (s.readLoc src)) := by
  rw [exec_eq_run, h]
  rfl

theorem exec_of_meaning_mov_m {src : Loc} (h : meaning i = .mov .m src) :
    exec i s = .next ((s.advance 1).writeMem (s.pair .hl) (s.readLoc src)) := by
  rw [exec_eq_run, h]
  rfl

theorem exec_of_meaning_mvi_reg {dst : Reg} {v : Byte} (h : meaning i = .mvi (.reg dst) v) :
    exec i s = .next ((s.advance 2).setReg dst v) := by
  rw [exec_eq_run, h]
  rfl

theorem exec_of_meaning_lxi {p : Pair} {v : Word} (h : meaning i = .lxi p v) :
    exec i s = .next ((s.advance 3).setPair p v) := by
  rw [exec_eq_run, h]
  rfl

/-- LHLD loads L from `a` and H from the next address (R148). -/
theorem exec_lhld (a : Word) :
    exec (.lhld a) s = .next (((s.advance 3).setReg .l (s.readMem a)).setReg .h (s.readMem (a + 1))) := rfl

/-- SHLD stores the word HL, which is the byte L and then the byte H (R149). -/
theorem exec_shld (a : Word) : exec (.shld a) s = .next ((s.advance 3).writeMem16 a (s.reg .h ++ s.reg .l)) := by
  rw [State.writeMem16, high_of_append, low_of_append]
  rfl

/-! ### Frames -/

/-- The pc is `n` further, and nothing changed besides but general registers. -/
def KeepsAllButRegs (n : Word) (s t : State) : Prop :=
  FallsThrough n s t ∧ t.sp = s.sp ∧ t.flags = s.flags ∧ SameMem s t

/-- The pc is `n` further, and nothing changed besides but bytes of memory. -/
def KeepsAllButMem (n : Word) (s t : State) : Prop :=
  FallsThrough n s t ∧ t.sp = s.sp ∧ t.flags = s.flags ∧ SameRegs s t

theorem fallsThrough_advance (n : Nat) : FallsThrough (BitVec.ofNat 16 n) s (s.advance n) :=
  ⟨rfl, rfl, rfl, rfl, rfl, rfl, rfl, rfl⟩

theorem keepsAllButRegs_advance (n : Nat) : KeepsAllButRegs (BitVec.ofNat 16 n) s (s.advance n) :=
  ⟨fallsThrough_advance n, rfl, rfl, fun _ => rfl⟩

theorem keepsAllButMem_advance (n : Nat) : KeepsAllButMem (BitVec.ofNat 16 n) s (s.advance n) :=
  ⟨fallsThrough_advance n, rfl, rfl, fun _ => rfl⟩

theorem KeepsAllButRegs.setReg (h : KeepsAllButRegs n s t) (r : Reg) (v : Byte) :
    KeepsAllButRegs n s (t.setReg r v) := h

theorem KeepsAllButMem.writeMem (h : KeepsAllButMem n s t) (a : Word) (v : Byte) :
    KeepsAllButMem n s (t.writeMem a v) := h

theorem FallsThrough.setPair (h : FallsThrough n s t) (p : Pair) (v : Word) : FallsThrough n s (t.setPair p v) := by
  cases p <;> exact h

/-! ### A register loaded, a byte stored -/

/-- An instruction of `n` bytes that answers with `v` in `r` changed nothing else. -/
theorem setsReg_of_exec (n : Nat) {r : Reg} {v : Byte} (h : exec i s = .next ((s.advance n).setReg r v)) :
    ∃ t, exec i s = .next t ∧ SetsReg r v s t ∧ KeepsAllButRegs (BitVec.ofNat 16 n) s t :=
  ⟨_, h, fun q => (s.advance n).reg_setReg r q v, (keepsAllButRegs_advance n).setReg r v⟩

/-- An instruction of `n` bytes that answers with `v` stored at `a` changed nothing else. -/
theorem storesByte_of_exec (n : Nat) {a : Word} {v : Byte} (h : exec i s = .next ((s.advance n).writeMem a v)) :
    ∃ t, exec i s = .next t ∧ StoresByte a v s t ∧ KeepsAllButMem (BitVec.ofNat 16 n) s t :=
  ⟨_, h, fun x => (s.advance n).readMem_writeMem a x v, (keepsAllButMem_advance n).writeMem a v⟩

end Sys2Proof.Claims
end

section
/-! The move, load and store family (42_move_load). -/

namespace Sys2Proof.Claims

open Sys2Proof.Machine

/-- Settles O8: LHLD sets L and then H; SHLD is one 16-bit store, whose two bytes lie at different addresses. -/
theorem lhldShld : Obligations.LhldShld := fun a => by
  refine ⟨rfl, rfl, fun s => ⟨⟨_, exec_lhld a, fun q => ?_, ?_⟩, ⟨_, exec_shld a, fun x => ?_, ?_⟩⟩⟩
  · cases q <;> rfl
  · exact ((keepsAllButRegs_advance 3).setReg .l _).setReg .h _
  · have hword := storesWord_writeMem16 (s.advance 3) a (s.reg .h ++ s.reg .l) x
    rwa [low_of_append, high_of_append] at hword
  · exact ((keepsAllButMem_advance 3).writeMem a _).writeMem (a + 1) _

/-- Settles O1: every row is a MOV between two registers, and MOV loads its destination. -/
theorem movRegReg : Obligations.MovRegReg := fun _ _ _ hrow =>
  have hm := meaning_of_mem_movRegRegRows _ hrow
  ⟨(encode_of_meaning_mov hm :), fun _ => setsReg_of_exec 1 (exec_of_meaning_mov_reg hm)⟩

/-- Settles O2: every row is a MOV from M, whose address is the HL of before the load. -/
theorem movRegMem : Obligations.MovRegMem := fun _ _ hrow =>
  have hm := meaning_of_mem_movRegMemRows _ hrow
  ⟨(encode_of_meaning_mov hm :), fun _ => setsReg_of_exec 1 (exec_of_meaning_mov_reg hm)⟩

/-- Settles O3: every row is a MOV to M. -/
theorem movMemReg : Obligations.MovMemReg := fun _ _ hrow =>
  have hm := meaning_of_mem_movMemRegRows _ hrow
  ⟨(encode_of_meaning_mov hm :), fun _ => storesByte_of_exec 1 (exec_of_meaning_mov_m hm)⟩

/-- Settles O4: every row is an MVI to a register, and MVI M stores at HL. -/
theorem mviRegAndMem : Obligations.MviRegAndMem := by
  refine ⟨fun v i dst hrow => ?_, fun v => ⟨rfl, fun s => storesByte_of_exec 2 rfl⟩⟩
  have hm := meaning_of_mem_mviRegRows v _ hrow
  exact ⟨(encode_of_meaning_mvi hm :), fun s => setsReg_of_exec 2 (exec_of_meaning_mvi_reg hm)⟩

/-- Settles O5: every row is an LXI, which writes its pair and moves the pc. -/
theorem lxiPairs : Obligations.LxiPairs := fun v i p hrow => by
  have hm := meaning_of_mem_lxiRows v _ hrow
  refine ⟨encode_of_meaning_lxi hm, fun s => ⟨_, exec_of_meaning_lxi hm, ?_, ?_, ?_, ?_⟩⟩
  · exact setsPair_setPair p v (s.advance 3)
  · exact (fallsThrough_advance 3).setPair p v
  · exact (s.advance 3).setPair_flags p v
  · exact sameMem_of_mem_eq ((s.advance 3).setPair_mem p v)

/-- Settles O6: each of the three answers with a byte of memory in A. -/
theorem loadsIntoA : Obligations.LoadsIntoA :=
  ⟨fun _ => ⟨rfl, fun _ => setsReg_of_exec 3 rfl⟩, rfl, rfl, fun _ =>
    ⟨setsReg_of_exec 1 rfl, setsReg_of_exec 1 rfl⟩⟩

/-- Settles O7: each of the three answers with A stored at its address. -/
theorem storesOfA : Obligations.StoresOfA :=
  ⟨fun _ => ⟨rfl, fun _ => storesByte_of_exec 3 rfl⟩, rfl, rfl, fun _ =>
    ⟨storesByte_of_exec 1 rfl, storesByte_of_exec 1 rfl⟩⟩

end Sys2Proof.Claims
end

section
/-! SUPPORT. The increment and decrement meanings: how their instructions are encoded, the next state of each, the
flags of R115, and what a write of a pair, or of an operand and the flags, leaves alone. -/

namespace Sys2Proof.Claims

open Sys2Proof.Machine

variable {i : Instr} {s : State}

/-! ### Encodings (R81, R82, R87) -/

/-- INR is `00DDD100`. -/
theorem encode_of_meaning_inr {o : Loc} (h : meaning i = .inr o) : encode i = [opByte 0b00 o.code 0b100] := by
  cases i <;> cases h <;> rfl

/-- DCR is `00DDD101`. -/
theorem encode_of_meaning_dcr {o : Loc} (h : meaning i = .dcr o) : encode i = [opByte 0b00 o.code 0b101] := by
  cases i <;> cases h <;> rfl

/-- INX is `00RP0011`. -/
theorem encode_of_meaning_inx {p : Pair} (h : meaning i = .inx p) : encode i = [opPair 0b00 p.code 0b0011] := by
  cases i <;> cases h <;> rfl

/-- DCX is `00RP1011`. -/
theorem encode_of_meaning_dcx {p : Pair} (h : meaning i = .dcx p) : encode i = [opPair 0b00 p.code 0b1011] := by
  cases i <;> cases h <;> rfl

/-! ### The meanings of the tables -/

theorem meaning_of_mem_inrRegRows : ∀ row ∈ inrRegRows, meaning row.1 = .inr (.reg row.2) :=
  List.map_inj_left.mp rfl

theorem meaning_of_mem_dcrRegRows : ∀ row ∈ dcrRegRows, meaning row.1 = .dcr (.reg row.2) :=
  List.map_inj_left.mp rfl

theorem meaning_of_mem_inxRows : ∀ row ∈ inxRows, meaning row.1 = .inx row.2 :=
  List.map_inj_left.mp rfl

theorem meaning_of_mem_dcxRows : ∀ row ∈ dcxRows, meaning row.1 = .dcx row.2 :=
  List.map_inj_left.mp rfl

/-! ### Next states -/

theorem exec_of_meaning_inr_reg {r : Reg} (h : meaning i = .inr (.reg r)) :
    exec i s = .next (((s.advance 1).setReg r (s.reg r + 1)).setFlags (inrFlags (s.reg r) s.flags)) := by
  rw [exec_eq_run, h]
  rfl

theorem exec_of_meaning_dcr_reg {r : Reg} (h : meaning i = .dcr (.reg r)) :
    exec i s = .next (((s.advance 1).setReg r (s.reg r - 1)).setFlags (dcrFlags (s.reg r) s.flags)) := by
  rw [exec_eq_run, h]
  rfl

theorem exec_of_meaning_inx {p : Pair} (h : meaning i = .inx p) :
    exec i s = .next ((s.advance 1).setPair p (s.pair p + 1)) := by
  rw [exec_eq_run, h, ← s.pair_advance 1 p]
  rfl

theorem exec_of_meaning_dcx {p : Pair} (h : meaning i = .dcx p) :
    exec i s = .next ((s.advance 1).setPair p (s.pair p - 1)) := by
  rw [exec_eq_run, h, ← s.pair_advance 1 p]
  rfl

/-! ### Flags (R110, R115) -/

/-- The flag engine's Z, S and P are those of R110. -/
theorem zspOf_zsp (v : Byte) (f : Flags) : ZspOf v (zsp v f) :=
  ⟨decide_eq_decide.mpr BitVec.toNat_inj.symm, sign_bit v, popcount_even v⟩

/-- The flags `f'` after the operand went to `v` (R115): Z, S and P of `v`, AC as given, CY as in `f`. -/
def IncDecFlags (v : Byte) (ac : Bool) (f f' : Flags) : Prop :=
  ZspOf v f' ∧ f'.ac = ac ∧ f'.cy = f.cy

/-- An increment carries out of the low nibble exactly when that nibble was 15. -/
theorem incDecFlags_inrFlags (old : Byte) (f : Flags) :
    IncDecFlags (old + 1) (decide (old.toNat % 16 = 15)) f (inrFlags old f) := by
  refine ⟨zspOf_zsp (old + 1) f, ?_, rfl⟩
  rw [← low_nibble]
  exact decide_eq_decide.mpr BitVec.toNat_inj.symm

/-- A decrement does not borrow from the high nibble exactly when the low nibble was not 0. -/
theorem incDecFlags_dcrFlags (old : Byte) (f : Flags) :
    IncDecFlags (old - 1) (decide (old.toNat % 16 ≠ 0)) f (dcrFlags old f) := by
  refine ⟨zspOf_zsp (old - 1) f, ?_, rfl⟩
  rw [← low_nibble]
  exact decide_eq_decide.mpr (not_congr BitVec.toNat_inj.symm)

/-! ### An operand and the flags written, a pair written -/

/-- An instruction of one byte that answers with `v` in `r` and the flags of R115 changed nothing else. -/
theorem setsReg_incDecFlags_of_exec {r : Reg} {v : Byte} {ac : Bool} {f : Flags} (hf : IncDecFlags v ac s.flags f)
    (h : exec i s = .next (((s.advance 1).setReg r v).setFlags f)) :
    ∃ t, exec i s = .next t ∧ SetsReg r v s t ∧ ZspOf v t.flags ∧ t.flags.ac = ac ∧ t.flags.cy = s.flags.cy ∧
      FallsThrough 1 s t ∧ t.sp = s.sp ∧ SameMem s t := by
  obtain ⟨hzsp, hac, hcy⟩ := hf
  exact ⟨_, h, fun q => (s.advance 1).reg_setReg r q v, hzsp, hac, hcy, fallsThrough_advance 1, rfl, fun _ => rfl⟩

/-- An instruction of one byte that answers with `v` stored at `a` and the flags of R115 changed nothing else. -/
theorem storesByte_incDecFlags_of_exec {a : Word} {v : Byte} {ac : Bool} {f : Flags}
    (hf : IncDecFlags v ac s.flags f) (h : exec i s = .next (((s.advance 1).writeMem a v).setFlags f)) :
    ∃ t, exec i s = .next t ∧ StoresByte a v s t ∧ ZspOf v t.flags ∧ t.flags.ac = ac ∧ t.flags.cy = s.flags.cy ∧
      FallsThrough 1 s t ∧ t.sp = s.sp ∧ SameRegs s t := by
  obtain ⟨hzsp, hac, hcy⟩ := hf
  exact ⟨_, h, fun x => (s.advance 1).readMem_writeMem a x v, hzsp, hac, hcy, fallsThrough_advance 1, rfl,
    fun _ => rfl⟩

/-- An instruction of `n` bytes that answers with `v` in the pair `p` changed nothing else. -/
theorem setsPair_of_exec (n : Nat) {p : Pair} {v : Word} (h : exec i s = .next ((s.advance n).setPair p v)) :
    ∃ t, exec i s = .next t ∧ SetsPair p v s t ∧ FallsThrough (BitVec.ofNat 16 n) s t ∧ t.flags = s.flags ∧
      SameMem s t :=
  ⟨_, h, setsPair_setPair p v (s.advance n), (fallsThrough_advance n).setPair p v,
    (s.advance n).setPair_flags p v, sameMem_of_mem_eq ((s.advance n).setPair_mem p v)⟩

end Sys2Proof.Claims
end

section
/-! The increment and decrement family (43_inc_dec). -/

namespace Sys2Proof.Claims

open Sys2Proof.Machine

/-- Settles O9: every row is an INR of a register, and INR M stores at HL; both write the flags of R115. -/
theorem inrForms : Obligations.InrForms := by
  refine ⟨fun i r hrow => ?_, rfl, fun s old hold => ?_⟩
  · have hm := meaning_of_mem_inrRegRows _ hrow
    exact ⟨(encode_of_meaning_inr hm :), fun s =>
      setsReg_incDecFlags_of_exec (incDecFlags_inrFlags _ _) (exec_of_meaning_inr_reg hm)⟩
  · subst hold
    exact storesByte_incDecFlags_of_exec (incDecFlags_inrFlags _ _) rfl

/-- Settles O10: every row is a DCR of a register, and DCR M stores at HL; both write the flags of R115. -/
theorem dcrForms : Obligations.DcrForms := by
  refine ⟨fun i r hrow => ?_, rfl, fun s old hold => ?_⟩
  · have hm := meaning_of_mem_dcrRegRows _ hrow
    exact ⟨(encode_of_meaning_dcr hm :), fun s =>
      setsReg_incDecFlags_of_exec (incDecFlags_dcrFlags _ _) (exec_of_meaning_dcr_reg hm)⟩
  · subst hold
    exact storesByte_incDecFlags_of_exec (incDecFlags_dcrFlags _ _) rfl

/-- Settles O11: every row is an INX or a DCX, which writes its pair and moves the pc. -/
theorem inxDcx : Obligations.InxDcx := by
  refine ⟨fun i p hrow => ?_, fun i p hrow => ?_⟩
  · have hm := meaning_of_mem_inxRows _ hrow
    exact ⟨encode_of_meaning_inx hm, fun s => setsPair_of_exec 1 (exec_of_meaning_inx hm)⟩
  · have hm := meaning_of_mem_dcxRows _ hrow
    exact ⟨encode_of_meaning_dcx hm, fun s => setsPair_of_exec 1 (exec_of_meaning_dcx hm)⟩

end Sys2Proof.Claims
end

section
/-! SUPPORT. The arithmetic and logic instructions: the eight operations of R84 with their rows, encodings and next
states, the flags each leaves (R111 to R114), and what their write-backs leave alone; then how DAA corrects the sum
of two packed-BCD bytes. -/

namespace Sys2Proof.Claims

open Sys2Proof.Machine

variable {i : Instr} {s : State} {x : Src} {f : Flags}

/-! ### The eight operations (R84) -/

/-- The operations of an ALU instruction, in the order of their codes. -/
inductive AluOp where
  | add | adc | sub | sbb | ana | xra | ora | cmp

/-- The field `ooo` of an ALU instruction. -/
def AluOp.code : AluOp → BitVec 3
  | .add => 0b000
  | .adc => 0b001
  | .sub => 0b010
  | .sbb => 0b011
  | .ana => 0b100
  | .xra => 0b101
  | .ora => 0b110
  | .cmp => 0b111

/-- The operation's table, the immediate being `v`. -/
def AluOp.rows : AluOp → Byte → List (Instr × Src)
  | .add => addRows
  | .adc => adcRows
  | .sub => subRows
  | .sbb => sbbRows
  | .ana => anaRows
  | .xra => xraRows
  | .ora => oraRows
  | .cmp => cmpRows

/-- The meaning that the instructions of the operation run. -/
def AluOp.meaning : AluOp → Src → Meaning
  | .add => .add
  | .adc => .adc
  | .sub => .sub
  | .sbb => .sbb
  | .ana => .ana
  | .xra => .xra
  | .ora => .ora
  | .cmp => .cmp

/-- The next state of the operation, in terms of the accumulator, the operand and the flags of before. -/
def AluOp.next (op : AluOp) (x : Src) (s : State) : State :=
  let a := s.reg .a
  let v := aluValue s x
  let t := s.advance x.length
  match op with
  | .add => t.setArith (add8 a v false)
  | .adc => t.setArith (add8 a v s.flags.cy)
  | .sub => t.setArith (sub8 a v false)
  | .sbb => t.setArith (sub8 a v s.flags.cy)
  | .ana => (t.setReg .a (a &&& v)).setFlags (anaFlags s.cfg.anaAC a v s.flags)
  | .xra => t.setLogic (a ^^^ v)
  | .ora => t.setLogic (a ||| v)
  | .cmp => t.setFlags (arithFlags (sub8 a v false) s.flags)

theorem meaning_of_mem_aluRows (op : AluOp) (v : Byte) : ∀ row ∈ op.rows v, meaning row.1 = op.meaning row.2 := by
  cases op <;> exact List.map_inj_left.mp rfl

/-- An ALU instruction is `10oooSSS`, or `11ooo110` and the immediate. -/
theorem encode_of_mem_aluRows (op : AluOp) (v : Byte) : ∀ row ∈ op.rows v, encode row.1 = aluBytes op.code row.2 := by
  cases op <;> exact List.map_inj_left.mp rfl

/-- The operand is read past the instruction, where it has the value of before. -/
theorem readSrc_advance (n : Nat) (x : Src) (s : State) : (s.advance n).readSrc x = aluValue s x := by
  rcases x with (_ | _) | _ <;> rfl

/-- The meaning of an operation answers its next state. -/
theorem AluOp.run_meaning (op : AluOp) (x : Src) (s : State) : (op.meaning x).run s = .next (op.next x s) := by
  unfold AluOp.next
  rw [← readSrc_advance x.length]
  cases op <;> rfl

/-- A row of an operation's table is an instruction of that encoding and that next state. -/
theorem alu_of_mem_rows (op : AluOp) {v : Byte} (hrow : (i, x) ∈ op.rows v) :
    encode i = aluBytes op.code x ∧ ∀ s, exec i s = .next (op.next x s) :=
  ⟨encode_of_mem_aluRows op v _ hrow, fun s => by
    rw [exec_eq_run, meaning_of_mem_aluRows op v _ hrow, op.run_meaning]⟩

/-! ### Flags (R110 to R114) -/

theorem zspOf_arithFlags (r : AluResult) (f : Flags) : ZspOf r.result (arithFlags r f) :=
  zspOf_zsp r.result f

theorem addFlags_add8 (a v : Byte) (c : Bool) (f : Flags) : AddFlags a v c.toNat (arithFlags (add8 a v c) f) :=
  ⟨zspOf_arithFlags _ f, add8_carry a v c, add8_aux a v c⟩

/-- The difference in the terms of `SubFlags`, where the 0x200 keeps the subtraction of numbers from truncating. -/
theorem sub8_result_eq_ofNat (a v : Byte) (c : Bool) :
    (sub8 a v c).result = BitVec.ofNat 8 (a.toNat + 0x200 - v.toNat - c.toNat) := by
  have hv := v.isLt
  have hc := c.toNat_le
  apply BitVec.eq_of_toNat_eq
  simp only [sub8, BitVec.toNat_ofNat]
  omega

theorem subFlags_sub8 (a v : Byte) (c : Bool) (f : Flags) : SubFlags a v c.toNat (arithFlags (sub8 a v c) f) := by
  refine ⟨?_, sub8_carry a v c, sub8_aux a v c⟩
  rw [← sub8_result_eq_ofNat]
  exact zspOf_arithFlags _ f

theorem logicFlags_zsp (v : Byte) (f : Flags) : LogicFlags v false (logicFlags v f) :=
  ⟨zspOf_zsp v f, rfl, rfl⟩

/-- AC after ANA is 0, or bit 3 of `a | v` under `ANA_AC = Intel`. -/
theorem logicFlags_anaFlags (m : AnaAC) (a v : Byte) (f : Flags) :
    LogicFlags (a &&& v) (decide (m = .intel) && (a.getLsbD 3 || v.getLsbD 3)) (anaFlags m a v f) := by
  refine ⟨zspOf_zsp _ f, rfl, ?_⟩
  cases m with
  | clear => rfl
  | intel => exact BitVec.getLsbD_or

/-- Z after a subtraction without borrow in says that the two bytes are equal (R201). -/
theorem SubFlags.z_iff {a v : Byte} (h : SubFlags a v 0 f) : f.z = true ↔ a = v := by
  obtain ⟨⟨hz, -, -⟩, -, -⟩ := h
  have ha := a.isLt
  have hv := v.isLt
  rw [hz, decide_eq_true_iff, BitVec.toNat_ofNat, ← BitVec.toNat_inj]
  omega

/-- CY after a subtraction without borrow in says that the first byte is less (R201). -/
theorem SubFlags.cy_iff {a v : Byte} (h : SubFlags a v 0 f) : f.cy = true ↔ a.toNat < v.toNat := by
  obtain ⟨-, hcy, -⟩ := h
  rw [hcy, decide_eq_true_iff, Nat.add_zero]

/-! ### Write-backs -/

theorem fallsThrough_advance_length (x : Src) (s : State) : FallsThrough (aluLength x) s (s.advance x.length) := by
  cases x <;> exact fallsThrough_advance _

/-- An ALU instruction that answers with `v` in A and flags of which `P` holds changed nothing else. -/
theorem setsA_of_exec {P : Flags → Prop} {v : Byte} (hf : P f)
    (h : exec i s = .next (((s.advance x.length).setReg .a v).setFlags f)) :
    ∃ t, exec i s = .next t ∧ SetsReg .a v s t ∧ P t.flags ∧ FallsThrough (aluLength x) s t ∧ t.sp = s.sp ∧
      SameMem s t :=
  ⟨_, h, fun q => (s.advance x.length).reg_setReg .a q v, hf, fallsThrough_advance_length x s, rfl, fun _ => rfl⟩

/-- The same of a write-back by the arithmetic policy (R114). -/
theorem setsA_of_exec_setArith {P : Flags → Prop} {r : AluResult} (hf : P (arithFlags r s.flags))
    (h : exec i s = .next ((s.advance x.length).setArith r)) :
    ∃ t, exec i s = .next t ∧ SetsReg .a r.result s t ∧ P t.flags ∧ FallsThrough (aluLength x) s t ∧
      t.sp = s.sp ∧ SameMem s t :=
  setsA_of_exec hf h

/-- An ALU instruction that answers with flags of which `P` holds changed nothing else. -/
theorem flags_of_exec {P : Flags → Prop} (hf : P f) (h : exec i s = .next ((s.advance x.length).setFlags f)) :
    ∃ t, exec i s = .next t ∧ P t.flags ∧ SameRegs s t ∧ FallsThrough (aluLength x) s t ∧ t.sp = s.sp ∧ SameMem s t :=
  ⟨_, h, hf, fun _ => rfl, fallsThrough_advance_length x s, rfl, fun _ => rfl⟩

/-- An instruction of one byte that answers with `c` in CY changed nothing else. -/
theorem onlyCy_of_exec {c : Bool} (h : exec i s = .next ((s.advance 1).setCy c)) :
    ∃ t, exec i s = .next t ∧ OnlyCy c s.flags t.flags ∧ SameRegs s t ∧ FallsThrough 1 s t ∧ t.sp = s.sp ∧
      SameMem s t :=
  ⟨_, h, ⟨rfl, rfl, rfl, rfl, rfl⟩, fun _ => rfl, fallsThrough_advance 1, rfl, fun _ => rfl⟩

/-- An instruction of one byte that answers with `v` in the pair `p` and `c` in CY changed nothing else. -/
theorem setsPair_onlyCy_of_exec {p : Pair} {v : Word} {c : Bool}
    (h : exec i s = .next (((s.advance 1).setPair p v).setCy c)) :
    ∃ t, exec i s = .next t ∧ SetsPair p v s t ∧ OnlyCy c s.flags t.flags ∧ FallsThrough 1 s t ∧ SameMem s t := by
  have hflags := (s.advance 1).setPair_flags p v
  refine ⟨_, h, setsPair_setPair p v (s.advance 1), ?_, (fallsThrough_advance 1).setPair p v,
    sameMem_of_mem_eq ((s.advance 1).setPair_mem p v)⟩
  rw [State.setCy_flags, hflags]
  exact ⟨rfl, rfl, rfl, rfl, rfl⟩

/-! ### DAD and CMA (R204, R205) -/

/-- DAD is `00RP1001`. -/
theorem encode_of_meaning_dad {p : Pair} (h : meaning i = .dad p) : encode i = [opPair 0b00 p.code 0b1001] := by
  cases i <;> cases h <;> rfl

theorem meaning_of_mem_dadRows : ∀ row ∈ dadRows, meaning row.1 = .dad row.2 :=
  List.map_inj_left.mp rfl

theorem exec_of_meaning_dad {p : Pair} (h : meaning i = .dad p) :
    exec i s = .next (((s.advance 1).setPair .hl (s.pair .hl + s.pair p)).setCy
      (decide (0xFFFF < (s.pair .hl).toNat + (s.pair p).toNat))) := by
  rw [exec_eq_run, h, ← s.pair_advance 1 p]
  rfl

theorem not_eq_ofNat_sub (a : Byte) : ~~~a = BitVec.ofNat 8 (255 - a.toNat) := by
  apply BitVec.eq_of_toNat_eq
  rw [BitVec.toNat_not, BitVec.toNat_ofNat]
  omega

/-! ### DAA after an addition of packed-BCD bytes (R240) -/

theorem exec_daa :
    exec .daa s = .next ((s.advance 1).setArith
      { add8 (s.reg .a) (daaCorr (s.reg .a) s.flags) false with
        carry := daaHigh (s.reg .a) s.flags || s.flags.cy }) := rfl

/-- The two corrections share no bit, so their combination is their sum. -/
theorem toNat_daaCorr (a : Byte) (f : Flags) :
    (daaCorr a f).toNat = (if daaLow a f then 6 else 0) + if daaHigh a f then 96 else 0 := by
  unfold daaCorr
  cases daaLow a f <;> cases daaHigh a f <;> rfl

theorem toNat_bcd {n : Nat} (h : n < 100) : (bcd n).toNat = n / 10 * 16 + n % 10 := by
  rw [bcd, BitVec.toNat_ofNat]
  omega

/-- The high nibble is above 9, or is 9 under a low nibble above 9: the byte is above 0x99. -/
theorem daaHigh_eq (a : Byte) (f : Flags) : daaHigh a f = (decide (0x99 < a.toNat) || f.cy) := by
  rw [daaHigh, Bool.or_right_comm, ← Bool.decide_and, ← Bool.decide_or]
  exact congrArg (· || f.cy) (decide_eq_decide.mpr (by omega))

section BcdSum

variable {x y : Nat} (hx : x < 100) (hy : y < 100)
include hx hy

/-- The binary sum of two packed-BCD bytes is above 0x99 exactly when the sum of the numbers is above 99. -/
theorem bcd_sum_gt_iff : 0x99 < (bcd x).toNat + (bcd y).toNat ↔ 100 ≤ x + y := by
  rw [toNat_bcd hx, toNat_bcd hy]
  omega

variable (hf : AddFlags (bcd x) (bcd y) 0 f)
include hf

/-- The low correction applies exactly when the units carry. -/
theorem daaLow_bcd_sum :
    daaLow (BitVec.ofNat 8 ((bcd x).toNat + (bcd y).toNat)) f = decide (10 ≤ x % 10 + y % 10) := by
  obtain ⟨-, -, hac⟩ := hf
  rw [daaLow, hac, BitVec.toNat_ofNat, toNat_bcd hx, toNat_bcd hy, ← Bool.decide_or, decide_eq_decide]
  omega

/-- The high correction applies exactly when the sum of the two numbers is 100 or more. -/
theorem daaHigh_bcd_sum :
    daaHigh (BitVec.ofNat 8 ((bcd x).toNat + (bcd y).toNat)) f = decide (100 ≤ x + y) := by
  obtain ⟨-, hcy, -⟩ := hf
  have hbx := toNat_bcd hx
  have hby := toNat_bcd hy
  rw [daaHigh_eq, hcy, BitVec.toNat_ofNat, ← Bool.decide_or, decide_eq_decide, ← bcd_sum_gt_iff hx hy]
  omega

/-- The sum of the two bytes with its correction is the packed-BCD sum modulo 100. -/
theorem bcd_sum_add_daaCorr :
    (add8 (BitVec.ofNat 8 ((bcd x).toNat + (bcd y).toNat))
      (daaCorr (BitVec.ofNat 8 ((bcd x).toNat + (bcd y).toNat)) f) false).result = bcd ((x + y) % 100) := by
  apply BitVec.eq_of_toNat_eq
  rw [add8_result, toNat_daaCorr, daaLow_bcd_sum hx hy hf, daaHigh_bcd_sum hx hy hf,
    toNat_bcd (Nat.mod_lt _ (by decide))]
  simp only [BitVec.toNat_ofNat, toNat_bcd hx, toNat_bcd hy, Bool.toNat_false, decide_eq_true_eq]
  split_ifs <;> omega

/-- A carry of the binary sum is a sum of 100 or more already, so DAA's CY is its high test. -/
theorem daaHigh_or_cy_bcd_sum :
    (daaHigh (BitVec.ofNat 8 ((bcd x).toNat + (bcd y).toNat)) f || f.cy) = decide (100 ≤ x + y) := by
  rw [daaHigh_bcd_sum hx hy hf]
  obtain ⟨-, hcy, -⟩ := hf
  rw [hcy, ← Bool.decide_or, decide_eq_decide, ← bcd_sum_gt_iff hx hy]
  omega

end BcdSum

end Sys2Proof.Claims
end

section
/-! The arithmetic and logic family (44_arith_logic), with the use of DAA after ADI (R240). -/

namespace Sys2Proof.Claims

open Sys2Proof.Machine

/-- Settles O12: every row adds with the arithmetic policy, ADC and ACI with CY as the carry in. -/
theorem additionForms : Obligations.AdditionForms := by
  refine fun v i x => ⟨fun hrow => ?_, fun hrow => ?_⟩
  · obtain ⟨henc, hexec⟩ := alu_of_mem_rows .add hrow
    exact ⟨henc, fun s => setsA_of_exec_setArith (addFlags_add8 _ _ false s.flags) (hexec s)⟩
  · obtain ⟨henc, hexec⟩ := alu_of_mem_rows .adc hrow
    exact ⟨henc, fun s => setsA_of_exec_setArith (addFlags_add8 _ _ s.flags.cy s.flags) (hexec s)⟩

/-- Settles O13: every row subtracts with the arithmetic policy, SBB and SBI with CY as the borrow in. -/
theorem subtractionForms : Obligations.SubtractionForms := by
  refine fun v i x => ⟨fun hrow => ?_, fun hrow => ?_⟩
  · obtain ⟨henc, hexec⟩ := alu_of_mem_rows .sub hrow
    refine ⟨henc, fun s => ?_⟩
    have hsub := setsA_of_exec_setArith (subFlags_sub8 _ _ false s.flags) (hexec s)
    rwa [sub8_result, Bool.toNat_false, BitVec.sub_zero] at hsub
  · obtain ⟨henc, hexec⟩ := alu_of_mem_rows .sbb hrow
    refine ⟨henc, fun s => ?_⟩
    have hsbb := setsA_of_exec_setArith (subFlags_sub8 _ _ s.flags.cy s.flags) (hexec s)
    rwa [sub8_result] at hsbb

/-- Settles O14: every row writes back the conjunction, with AC by `ANA_AC` (`logicFlags_anaFlags`). -/
theorem andForms : Obligations.AndForms := fun v i x hrow => by
  obtain ⟨henc, hexec⟩ := alu_of_mem_rows .ana hrow
  exact ⟨henc, fun s => setsA_of_exec (logicFlags_anaFlags s.cfg.anaAC _ _ s.flags) (hexec s)⟩

/-- Settles O15: every row writes back with the logic policy. -/
theorem xorOrForms : Obligations.XorOrForms := by
  refine fun v i x => ⟨fun hrow => ?_, fun hrow => ?_⟩
  · obtain ⟨henc, hexec⟩ := alu_of_mem_rows .xra hrow
    exact ⟨henc, fun s => setsA_of_exec (logicFlags_zsp _ s.flags) (hexec s)⟩
  · obtain ⟨henc, hexec⟩ := alu_of_mem_rows .ora hrow
    exact ⟨henc, fun s => setsA_of_exec (logicFlags_zsp _ s.flags) (hexec s)⟩

/-- Settles O16: every row writes the flags of SUB alone, whose Z and CY compare the two bytes. -/
theorem compareForms : Obligations.CompareForms := fun v i x hrow => by
  obtain ⟨henc, hexec⟩ := alu_of_mem_rows .cmp hrow
  refine ⟨henc, fun s => ?_⟩
  obtain ⟨t, ht, hf, hframe⟩ := flags_of_exec (subFlags_sub8 _ _ false s.flags) (hexec s)
  exact ⟨t, ht, hf, hf.z_iff, hf.cy_iff, hframe⟩

/-- Settles O17: every row is a DAD, which writes HL and CY and moves the pc. -/
theorem dadPairs : Obligations.DadPairs := fun i p hrow => by
  have hm := meaning_of_mem_dadRows _ hrow
  exact ⟨encode_of_meaning_dad hm, fun s => setsPair_onlyCy_of_exec (exec_of_meaning_dad hm)⟩

/-- Settles O21: the units carry exactly when the low correction applies, the sum is 100 or more exactly when the
high one does. -/
theorem daaAddsPackedBcd : Obligations.DaaAddsPackedBcd := fun x y s hx hy ha => by
  have hf := addFlags_add8 (bcd x) (bcd y) false s.flags
  have hadi : exec (.adi (bcd y)) s = .next ((s.advance 2).setArith (add8 (bcd x) (bcd y) false)) := by
    rw [← ha]
    rfl
  exact ⟨_, _, hadi, exec_daa, bcd_sum_add_daaCorr hx hy hf, daaHigh_or_cy_bcd_sum hx hy hf⟩

/-- Settles O18: CMA sets A to its complement; STC and CMC write CY alone. -/
theorem complementAndCarry : Obligations.ComplementAndCarry := by
  refine ⟨rfl, rfl, rfl, fun s => ⟨?_, onlyCy_of_exec rfl, onlyCy_of_exec rfl⟩⟩
  rw [← not_eq_ofNat_sub]
  obtain ⟨t, hexec, hset, hfall, hsp, hflags, hmem⟩ := setsReg_of_exec (i := .cma) (s := s) 1 rfl
  exact ⟨t, hexec, hset, hflags, hfall, hsp, hmem⟩

end Sys2Proof.Claims
end

section
/-! SUPPORT. The rotates and DAA: the bits of a byte shifted with a carry brought in, and the rotations they make; the
parts of DAA's one addition; and what a write-back to A and CY leaves alone. -/

namespace Sys2Proof.Claims

open Sys2Proof.Machine

variable {i : Instr} {s : State} {v : Byte} {c : Bool} {n : Nat}

/-! ### Shifts with a carry brought in -/

theorem getLsbD_carryByte (c : Bool) (n : Nat) : (carryByte c).getLsbD n = (decide (n = 0) && c) := by
  cases c <;> simp [carryByte, BitVec.getLsbD_one]

/-- Shifted left, bit 0 is the carry and each other bit the one below it. -/
theorem getLsbD_shiftLeft_or_carry (a : Byte) (c : Bool) (hn : n < 8) :
    ((a <<< 1) ||| carryByte c).getLsbD n = if n = 0 then c else a.getLsbD (n - 1) := by
  rw [BitVec.getLsbD_or, BitVec.getLsbD_shiftLeft, getLsbD_carryByte]
  cases n <;> simp [hn]

/-- Shifted right, bit 7 is the carry and each other bit the one above it. -/
theorem getLsbD_shiftRight_or_carry (a : Byte) (c : Bool) (hn : n < 8) :
    ((a >>> 1) ||| (carryByte c <<< 7)).getLsbD n = if n = 7 then c else a.getLsbD (1 + n) := by
  rw [BitVec.getLsbD_or, BitVec.getLsbD_ushiftRight, BitVec.getLsbD_shiftLeft, getLsbD_carryByte]
  obtain h | rfl : n < 7 ∨ n = 7 := by omega
  · simp [h, h.ne]
  · simp

/-! ### Rotations of the byte and of the nine bits (R230 to R233) -/

/-- Bit 7 brought in below rotates the byte left (R230). -/
theorem shiftLeft_or_bit_seven (a : Byte) : (a <<< 1) ||| carryByte (a.getLsbD 7) = a.rotateLeft 1 := by
  apply BitVec.eq_of_getLsbD_eq
  intro n hn
  rw [getLsbD_shiftLeft_or_carry a _ hn, BitVec.getLsbD_rotateLeft]
  cases n <;> simp [hn]

/-- Bit 0 brought in above rotates the byte right (R231). -/
theorem shiftRight_or_bit_zero (a : Byte) : (a >>> 1) ||| (carryByte (a.getLsbD 0) <<< 7) = a.rotateRight 1 := by
  apply BitVec.eq_of_getLsbD_eq
  intro n hn
  rw [getLsbD_shiftRight_or_carry a _ hn, BitVec.getLsbD_rotateRight]
  obtain h | rfl : n < 7 ∨ n = 7 := by omega
  · simp [h, h.ne]
  · simp

/-- Bit 7 above the byte that took the carry in below is the nine bits rotated left (R232). -/
theorem bit_seven_append_shiftLeft (a : Byte) (c : Bool) :
    BitVec.ofBool (a.getLsbD 7) ++ ((a <<< 1) ||| carryByte c) = (BitVec.ofBool c ++ a).rotateLeft 1 := by
  apply BitVec.eq_of_getLsbD_eq
  intro n hn
  simp only [BitVec.getLsbD_append, BitVec.getLsbD_rotateLeft]
  obtain h | rfl : n < 8 ∨ n = 8 := by omega
  · rw [if_pos h, getLsbD_shiftLeft_or_carry a c h]
    cases n with
    | zero => simp
    | succ n => simp [Nat.lt_of_succ_lt h, hn]
  · simp

/-- Bit 0 above the byte that took the carry in at its top is the nine bits rotated right (R233). -/
theorem bit_zero_append_shiftRight (a : Byte) (c : Bool) :
    BitVec.ofBool (a.getLsbD 0) ++ ((a >>> 1) ||| (carryByte c <<< 7)) = (BitVec.ofBool c ++ a).rotateRight 1 := by
  apply BitVec.eq_of_getLsbD_eq
  intro n hn
  simp only [BitVec.getLsbD_append, BitVec.getLsbD_rotateRight]
  obtain h | rfl : n < 8 ∨ n = 8 := by omega
  · rw [if_pos h, getLsbD_shiftRight_or_carry a c h]
    obtain h7 | rfl : n < 7 ∨ n = 7 := by omega
    · have hup : 1 + n < 8 := by omega
      simp [h, h7.ne, hup]
    · simp
  · simp

/-! ### DAA's one addition (R240) -/

/-- The combined correction adds the two corrections. -/
theorem add8_daaCorr_result (a : Byte) (f : Flags) :
    (add8 a (daaCorr a f) false).result =
      a + (if daaLow a f then 0x06 else 0) + (if daaHigh a f then 0x60 else 0) := by
  rw [add8_result, toNat_daaCorr]
  cases daaLow a f <;> cases daaHigh a f <;> simp [BitVec.ofNat_add, BitVec.add_assoc]

/-- The high correction adds nothing to the low nibble, so AC is the carry of the low one. -/
theorem add8_daaCorr_aux (a : Byte) (f : Flags) :
    (add8 a (daaCorr a f) false).aux = decide (15 < a.toNat % 16 + if daaLow a f then 6 else 0) := by
  rw [add8_aux, toNat_daaCorr]
  cases daaLow a f <;> cases daaHigh a f <;> rfl

/-- A set CY applies the high correction, so a CY that is kept is no more than the high test. -/
theorem daaHigh_or_cy (a : Byte) (f : Flags) : (daaHigh a f || f.cy) = daaHigh a f := by
  rw [daaHigh_eq, Bool.or_assoc, Bool.or_self]

/-! ### Write-backs to A and CY -/

/-- An instruction of one byte that answers with `v` in A and `c` in CY changed nothing else. -/
theorem setsA_onlyCy_of_exec (h : exec i s = .next (((s.advance 1).setReg .a v).setCy c)) :
    ∃ t, exec i s = .next t ∧ SetsReg .a v s t ∧ OnlyCy c s.flags t.flags ∧ FallsThrough 1 s t ∧ t.sp = s.sp ∧
      SameMem s t :=
  ⟨_, h, fun q => (s.advance 1).reg_setReg .a q v, ⟨rfl, rfl, rfl, rfl, rfl⟩, fallsThrough_advance 1, rfl,
    fun _ => rfl⟩

/-- The same in terms of the nine bits that CY and A make. -/
theorem setsCyAndA_of_exec {w : BitVec 9} (hw : BitVec.ofBool c ++ v = w)
    (h : exec i s = .next (((s.advance 1).setReg .a v).setCy c)) :
    ∃ t, exec i s = .next t ∧ SetsReg .a (t.reg .a) s t ∧ OnlyCy t.flags.cy s.flags t.flags ∧
      BitVec.ofBool t.flags.cy ++ t.reg .a = w ∧ FallsThrough 1 s t ∧ t.sp = s.sp ∧ SameMem s t := by
  obtain ⟨t, hexec, hset, hflags, hframe⟩ := setsA_onlyCy_of_exec h
  have ha : t.reg .a = v := hset .a
  have hcy : t.flags.cy = c := hflags.1
  subst ha hcy
  exact ⟨t, hexec, hset, hflags, hw, hframe⟩

end Sys2Proof.Claims
end

section
/-! The rotate and decimal-adjust family (45_rotate_daa). -/

namespace Sys2Proof.Claims

open Sys2Proof.Machine

/-- Settles O19: the shifts of RLC and RRC rotate the byte, those of RAL and RAR the nine bits of CY and A. -/
theorem rotates : Obligations.Rotates := by
  refine ⟨rfl, rfl, rfl, rfl, fun s => ⟨?rlc, ?rrc, ?ral, ?rar⟩⟩
  case rlc =>
    rw [← shiftLeft_or_bit_seven]
    exact setsA_onlyCy_of_exec rfl
  case rrc =>
    rw [← shiftRight_or_bit_zero]
    exact setsA_onlyCy_of_exec rfl
  case ral => exact setsCyAndA_of_exec (bit_seven_append_shiftLeft _ _) rfl
  case rar => exact setsCyAndA_of_exec (bit_zero_append_shiftRight _ _) rfl

/-- Settles O20: the two tests are the model's own, and its one addition makes both corrections. -/
theorem decimalAdjust : Obligations.DecimalAdjust := by
  refine ⟨rfl, fun s lo hi low high hlo hhi hlow hhigh => ?_⟩
  subst hlo hhi
  have hlowTest : low = daaLow (s.reg .a) s.flags := hlow
  have hhighTest : high = daaHigh (s.reg .a) s.flags := hhigh
  rw [hlowTest, hhighTest, ← add8_daaCorr_result, ← add8_daaCorr_aux, ← daaHigh_or_cy]
  exact ⟨_, exec_daa, fun q => (s.advance 1).reg_setReg .a q _, zspOf_arithFlags _ s.flags, rfl, rfl,
    fallsThrough_advance 1, rfl, fun _ => rfl⟩

end Sys2Proof.Claims
end

section
/-! SUPPORT. The stack: how its instructions are encoded, the next state of each, what a push leaves in memory, and
how a pop after a push nets out. -/

namespace Sys2Proof.Machine

variable {s t u : State}

/-! ### Frames one after the other -/

theorem SameRegs.trans (h : SameRegs s t) (h' : SameRegs t u) : SameRegs s u := fun q => (h' q).trans (h q)

theorem SameSystem.trans (h : SameSystem s t) (h' : SameSystem t u) : SameSystem s u := by
  obtain ⟨hie, hhalted, hfault, hports, hcfg, hdraws, hlog⟩ := h
  obtain ⟨hie', hhalted', hfault', hports', hcfg', hdraws', hlog'⟩ := h'
  exact ⟨hie'.trans hie, hhalted'.trans hhalted, hfault'.trans hfault, hports'.trans hports, hcfg'.trans hcfg,
    hdraws'.trans hdraws, hlog'.trans hlog⟩

/-! ### The words on the stack -/

/-- A push stores its word at the new sp (R10). -/
theorem storesWord_push16 (s : State) (v : Word) : StoresWord (s.sp - 2) v s (s.push16 v) := by
  have hnext : s.sp - 2 + 1 = s.sp - 1 := Word.sub_two_add_one s.sp
  intro x
  rw [State.readMem_push16, hnext]

/-- A word stored at sp is what a pop takes. -/
theorem StoresWord.popped {v : Word} (h : StoresWord t.sp v s t) : t.popped = v := by
  have hlow : t.readMem t.sp = v.extractLsb' 0 8 := by rw [h, if_pos rfl]
  have hne : t.sp + 1 ≠ t.sp := Word.add_one_ne t.sp
  have hhigh : t.readMem (t.sp + 1) = v.extractLsb' 8 8 := by rw [h, if_neg hne, if_pos rfl]
  rw [State.popped, State.readMem16, hlow, hhigh, word_of_bytes]

/-- The packed flag byte as a number: Z, S, P, CY and AC from bit 0 up, the pad in bits 7:5 (R27). -/
theorem pack_eq_ofNat (pad : BitVec 3) (f : Flags) :
    pack pad f = BitVec.ofNat 8 (f.z.toNat + 2 * f.s.toNat + 4 * f.p.toNat + 8 * f.cy.toNat + 16 * f.ac.toNat
      + 32 * pad.toNat) := by
  obtain ⟨z, s, p, cy, ac⟩ := f
  revert pad z s p cy ac
  decide +kernel

end Sys2Proof.Machine

namespace Sys2Proof.Claims

open Sys2Proof.Machine

variable {i : Instr} {s t u : State} {p : Pair} {v target : Word}

/-! ### Encodings and next states -/

/-- PUSH rp is `11RP0101`. -/
theorem encode_of_meaning_push (h : meaning i = .push p) : encode i = [opPair 0b11 p.code 0b0101] := by
  cases i <;> cases h <;> rfl

/-- POP rp is `11RP0001`. -/
theorem encode_of_meaning_pop (h : meaning i = .pop p) : encode i = [opPair 0b11 p.code 0b0001] := by
  cases i <;> cases h <;> rfl

theorem meaning_of_mem_pushRows : ∀ row ∈ pushRows, meaning row.1 = .push row.2 :=
  List.map_inj_left.mp rfl

theorem meaning_of_mem_popRows : ∀ row ∈ popRows, meaning row.1 = .pop row.2 :=
  List.map_inj_left.mp rfl

/-- No row pops into SP (R82: the code 11 stands for PSW there). -/
theorem ne_sp_of_mem_popRows : ∀ row ∈ popRows, row.2 ≠ .sp := by decide

theorem exec_of_meaning_push (h : meaning i = .push p) : exec i s = .next ((s.advance 1).push16 (s.pair p)) := by
  rw [exec_eq_run, h, ← s.pair_advance 1 p]
  rfl

theorem exec_of_meaning_pop (h : meaning i = .pop p) :
    exec i s = .next ((s.advance 1).popSp.setPair p s.popped) := by
  rw [exec_eq_run, h]
  rfl

/-- POP PSW takes A from the high byte of the popped word and the flags from the low one (R253). -/
theorem exec_popPsw :
    exec .popPsw s = .next (((s.advance 1).popSp.setReg .a (s.popped.extractLsb' 8 8)).setFlags
      (unpack (s.popped.extractLsb' 0 8))) := by
  rw [State.popped, State.readMem16, high_of_append, low_of_append]
  rfl

theorem exec_ret : exec .ret s = .next (s.popSp.setPc s.popped) := rfl

/-! ### A push, and a jump -/

theorem pushesAndGoes_push16 (s : State) (v : Word) : PushesAndGoes v s.pc s (s.push16 v) :=
  ⟨rfl, s.push16_sp v, storesWord_push16 s v, rfl, fun _ => rfl, rfl, rfl, rfl, rfl, rfl, rfl, rfl⟩

theorem PushesAndGoes.setPc (h : PushesAndGoes v target s t) (a : Word) : PushesAndGoes v a s (t.setPc a) := by
  obtain ⟨-, hframe⟩ := h
  exact ⟨rfl, hframe⟩

theorem exec_pushPsw_pushes (s : State) :
    ∃ t, exec .pushPsw s = .next t ∧
      PushesAndGoes (s.reg .a ++ pack s.cfg.pswPad s.flags) (s.pc + 1) s t :=
  ⟨_, rfl, pushesAndGoes_push16 (s.advance 1) _⟩

/-- CALL pushes the address after its three bytes and goes to `a` (R272). -/
theorem exec_call_pushes (a : Word) (s : State) :
    ∃ t, exec (.call a) s = .next t ∧ PushesAndGoes (s.pc + 3) a s t :=
  ⟨_, rfl, (pushesAndGoes_push16 (s.advance 3) _).setPc a⟩

theorem onlyPc_setPc (s : State) (a : Word) : OnlyPc a s (s.setPc a) :=
  ⟨rfl, rfl, rfl, fun _ => rfl, fun _ => rfl, rfl, rfl, rfl, rfl, rfl, rfl, rfl⟩

/-! ### A pop after a push -/

/-- What was pushed is on top of the stack. -/
theorem PushesAndGoes.popped (h : PushesAndGoes v target s t) : t.popped = v := by
  obtain ⟨-, hsp, hword, -⟩ := h
  exact (hsp ▸ hword : StoresWord t.sp v s t).popped

/-- A push and then a pop: sp is what it was, and only the two bytes below it changed. -/
theorem PushesAndGoes.netsOut (h : PushesAndGoes v target s t) (hsp : u.sp = t.sp + 2) (hmem : SameMem t u)
    (hsys : SameSystem t u) : u.sp = s.sp ∧ StoresWord (s.sp - 2) v s u ∧ SameSystem s u := by
  obtain ⟨-, htsp, hword, -, -, htsys⟩ := h
  exact ⟨by rw [hsp, htsp, BitVec.sub_add_cancel], fun x => (hmem x).trans (hword x), htsys.trans hsys⟩

/-- Of the state before, setting a pair depends on the registers and sp alone. -/
theorem SetsPair.of_sameRegs (h : SetsPair p v t u) (hregs : SameRegs s t) (hsp : t.sp = s.sp) :
    SetsPair p v s u := by
  cases p with
  | sp => exact ⟨h.1, hregs.trans h.2⟩
  | _ => exact ⟨h.1.trans hsp, fun q => by rw [h.2 q, hregs q]⟩

/-- A pair set to what it held changes no register. -/
theorem SetsPair.sameRegs (h : SetsPair p (s.pair p) s t) : SameRegs s t := by
  cases p with
  | sp => exact h.2
  | _ =>
    intro q
    rw [h.2 q, State.pair, high_of_append, low_of_append]
    cases q <;> rfl

end Sys2Proof.Claims
end

section
/-! The stack family (46_stack): PUSH and POP of pairs and PSW, SPHL and PCHL, and the round trips. -/

namespace Sys2Proof.Claims

open Sys2Proof.Machine

/-- Settles O22: every row is a PUSH, which stores its pair's word at the new sp, or a POP, which sets its pair to
the word at sp. -/
theorem pushAndPopPairs : Obligations.PushAndPopPairs := by
  refine ⟨fun i p hrow => ?push, fun i p hrow => ?pop⟩
  case push =>
    have hm := meaning_of_mem_pushRows _ hrow
    exact ⟨encode_of_meaning_push hm, fun s => ⟨_, exec_of_meaning_push hm, pushesAndGoes_push16 (s.advance 1) _⟩⟩
  case pop =>
    have hm := meaning_of_mem_popRows _ hrow
    refine ⟨encode_of_meaning_pop hm, fun s => ⟨_, exec_of_meaning_pop hm, ?_, ?_, ?_, ?_, ?_⟩⟩
    · exact State.setPair_sp_of_ne _ s.popped (ne_sp_of_mem_popRows _ hrow)
    · exact setsPair_setPair p s.popped (s.advance 1).popSp
    · exact FallsThrough.setPair (t := (s.advance 1).popSp) (fallsThrough_advance 1) p s.popped
    · exact State.setPair_flags _ p s.popped
    · exact sameMem_of_mem_eq (State.setPair_mem _ p s.popped)

/-- Settles O23: the packed flags are the number whose bits R27 lists, and the popped word is A and the flags' byte. -/
theorem pushAndPopPsw : Obligations.PushAndPopPsw := by
  refine ⟨rfl, rfl, fun s => ⟨?push, ?pop⟩⟩
  case push =>
    rw [← pack_eq_ofNat]
    exact exec_pushPsw_pushes s
  case pop =>
    exact ⟨_, rfl, rfl, fun q => (s.advance 1).popSp.reg_setReg .a q _, rfl, rfl, rfl, rfl, rfl,
      fallsThrough_advance 1, fun _ => rfl⟩

/-- Settles O24: SPHL writes sp and moves the pc, PCHL writes the pc alone. -/
theorem sphlPchl : Obligations.SphlPchl :=
  ⟨rfl, rfl, fun s => ⟨⟨_, rfl, rfl, rfl, fun _ => rfl, fallsThrough_advance 1, fun _ => rfl⟩,
    ⟨_, rfl, onlyPc_setPc s (s.pair .hl)⟩⟩⟩

/-- A PUSH of one pair and a POP of another, or the same: the popped pair gets the pushed value. -/
theorem setsPair_of_push_pop {i j : Instr} {p q : Pair} (hi : (i, p) ∈ pushRows) (hj : (j, q) ∈ popRows) (s : State) :
    ∃ t u, exec i s = .next t ∧ exec j t = .next u ∧ SetsPair q (s.pair p) s u ∧ u.sp = s.sp ∧ u.flags = s.flags ∧
      StoresWord (s.sp - 2) (s.pair p) s u ∧ FallsThrough 2 s u := by
  obtain ⟨t, ht, hpush⟩ := (pushAndPopPairs.1 i p hi).2 s
  obtain ⟨u, hu, hsp, hset, ⟨hpc, hsys⟩, hflags, hmem⟩ := (pushAndPopPairs.2 j q hj).2 t
  have hset : SetsPair q t.popped t.popSp u := hset
  rw [hpush.popped] at hset
  obtain ⟨hspNet, hword, hsysNet⟩ := hpush.netsOut hsp hmem hsys
  obtain ⟨htpc, -, -, htflags, hregs, -⟩ := hpush
  have hpcNet : u.pc = s.pc + 2 := by rw [hpc, htpc, BitVec.add_assoc]; rfl
  exact ⟨t, u, ht, hu, hset.of_sameRegs hregs (hsp.symm.trans hspNet), hspNet, hflags.trans htflags, hword, hpcNet,
    hsysNet⟩

/-- A PUSH PSW and a POP PSW: the popped word is A and the packed flags, which unpack to what they were (R27). -/
theorem pushPsw_popPsw (s : State) :
    ∃ t u, exec .pushPsw s = .next t ∧ exec .popPsw t = .next u ∧ SameRegs s u ∧ u.sp = s.sp ∧ u.flags = s.flags ∧
      StoresWord (s.sp - 2) (s.reg .a ++ pack s.cfg.pswPad s.flags) s u ∧ FallsThrough 2 s u := by
  obtain ⟨t, ht, hpush⟩ := exec_pushPsw_pushes s
  have hpop : exec .popPsw t = .next (((t.advance 1).popSp.setReg .a (s.reg .a)).setFlags s.flags) := by
    rw [exec_popPsw, hpush.popped, high_of_append, low_of_append, unpack_pack]
  obtain ⟨hsp, hword, hsys⟩ := hpush.netsOut (u := ((t.advance 1).popSp.setReg .a (s.reg .a)).setFlags s.flags)
    rfl (fun _ => rfl) (fallsThrough_advance 1).2
  obtain ⟨htpc, -, -, -, hregs, -⟩ := hpush
  refine ⟨t, _, ht, hpop, fun q => ?regs, hsp, rfl, hword, ?pc, hsys⟩
  case regs =>
    rw [State.reg_setFlags, State.reg_setReg]
    split
    next hq => rw [hq]
    next => exact hregs q
  case pc =>
    rw [State.setFlags_pc, State.setReg_pc, State.popSp_pc, State.advance_pc, htpc, BitVec.add_assoc]
    rfl

/-- A CALL and a RET: the popped word is the address after the CALL. -/
theorem call_ret (a : Word) (s : State) :
    ∃ t u, exec (.call a) s = .next t ∧ t.pc = a ∧ exec .ret t = .next u ∧ SameRegs s u ∧ u.sp = s.sp ∧
      u.flags = s.flags ∧ StoresWord (s.sp - 2) (s.pc + 3) s u ∧ FallsThrough 3 s u := by
  obtain ⟨t, ht, hpush⟩ := exec_call_pushes a s
  have hpopped := hpush.popped
  obtain ⟨hsp, hword, hsys⟩ := hpush.netsOut (u := t.popSp.setPc t.popped) rfl (fun _ => rfl)
    ⟨rfl, rfl, rfl, rfl, rfl, rfl, rfl⟩
  obtain ⟨htpc, -, -, hflags, hregs, -⟩ := hpush
  exact ⟨t, _, ht, htpc, exec_ret, hregs, hsp, hflags, hword, hpopped, hsys⟩

/-- Settles O25: each is a push and then a pop of the pushed word (`PushesAndGoes.popped`); what was pushed is what the
same pair, or A and the flags, or the pc held. -/
theorem stackRoundTrips : Obligations.StackRoundTrips := by
  refine fun s => ⟨fun i j p hi hj => ?samePair, fun i j p q hi hj => setsPair_of_push_pop hi hj s, ?psw,
    fun a => call_ret a s⟩
  case samePair =>
    obtain ⟨t, u, ht, hu, hset, hframe⟩ := setsPair_of_push_pop hi hj s
    exact ⟨t, u, ht, hu, hset.sameRegs, hframe⟩
  case psw =>
    obtain ⟨t, u, ht, hu, hregs, hsp, hflags, hword, hfall⟩ := pushPsw_popPsw s
    refine ⟨t, u, ht, hu, hregs, hsp, hflags, fun x hhigh hlow => ?_, hfall⟩
    rw [hword, if_neg hlow, if_neg (Word.sub_two_add_one s.sp ▸ hhigh)]

end Sys2Proof.Claims
end

section
/-! SUPPORT. The control flow: the conditions of the tables, how the instructions are encoded, and what the next state
of each meaning changes. -/

namespace Sys2Proof.Claims

open Sys2Proof.Machine

variable {i : Instr} {cc : Cond} {a : Word}

/-! ### The conditional tables (R83, R118) -/

/-- The eight conditions, in the order of their codes (R83). -/
def conditions : List Cond := [.nz, .z, .nc, .c, .po, .pe, .p, .m]

/-- A table with one row per condition, of meaning `m cc` under the flags `f`: each of its rows has a condition, with
that condition's code and test. -/
theorem exists_cond_of_mem_rows {rows : List (Instr × BitVec 3 × Bool)} {m : Cond → Meaning} {f : Flags}
    {ccc : BitVec 3} {b : Bool}
    (hrows : rows.map (fun row => (meaning row.1, row.2)) = conditions.map fun cc => (m cc, cc.code, cc.holds f))
    (hrow : (i, ccc, b) ∈ rows) : ∃ cc, meaning i = m cc ∧ cc.code = ccc ∧ cc.holds f = b := by
  have hmem := List.mem_map_of_mem (f := fun row => (meaning row.1, row.2)) hrow
  rw [hrows] at hmem
  obtain ⟨cc, -, hcc⟩ := List.mem_map.mp hmem
  obtain ⟨hm, htest⟩ := Prod.mk.inj hcc
  obtain ⟨hcode, hholds⟩ := Prod.mk.inj htest
  exact ⟨cc, hm.symm, hcode, hholds⟩

theorem exists_cond_of_mem_jccRows {f : Flags} {ccc : BitVec 3} {b : Bool} (hrow : (i, ccc, b) ∈ jccRows a f) :
    ∃ cc, meaning i = .jcc cc a ∧ cc.code = ccc ∧ cc.holds f = b :=
  exists_cond_of_mem_rows (m := (.jcc · a)) rfl hrow

theorem exists_cond_of_mem_cccRows {f : Flags} {ccc : BitVec 3} {b : Bool} (hrow : (i, ccc, b) ∈ cccRows a f) :
    ∃ cc, meaning i = .ccc cc a ∧ cc.code = ccc ∧ cc.holds f = b :=
  exists_cond_of_mem_rows (m := (.ccc · a)) rfl hrow

theorem exists_cond_of_mem_rccRows {f : Flags} {ccc : BitVec 3} {b : Bool} (hrow : (i, ccc, b) ∈ rccRows f) :
    ∃ cc, meaning i = .rcc cc ∧ cc.code = ccc ∧ cc.holds f = b :=
  exists_cond_of_mem_rows (m := .rcc) rfl hrow

theorem meaning_of_mem_rstRows : ∀ row ∈ rstRows, meaning row.1 = .rst row.2 :=
  List.map_inj_left.mp rfl

/-! ### Encodings (R83, R84, R87) -/

/-- Jcc is `11CCC010` and the address, low byte first. -/
theorem encode_of_meaning_jcc (h : meaning i = .jcc cc a) :
    encode i = [opByte 0b11 cc.code 0b010, a.extractLsb' 0 8, a.extractLsb' 8 8] := by
  cases i <;> cases h <;> rfl

/-- Ccc is `11CCC100` and the address, low byte first. -/
theorem encode_of_meaning_ccc (h : meaning i = .ccc cc a) :
    encode i = [opByte 0b11 cc.code 0b100, a.extractLsb' 0 8, a.extractLsb' 8 8] := by
  cases i <;> cases h <;> rfl

/-- Rcc is `11CCC000`. -/
theorem encode_of_meaning_rcc (h : meaning i = .rcc cc) : encode i = [opByte 0b11 cc.code 0b000] := by
  cases i <;> cases h <;> rfl

/-- RST n is `11NNN111`. -/
theorem encode_of_meaning_rst {n : BitVec 3} (h : meaning i = .rst n) : encode i = [opByte 0b11 n 0b111] := by
  cases i <;> cases h <;> rfl

/-! ### Next states -/

theorem exec_of_meaning {m : Meaning} (h : meaning i = m) (s : State) : exec i s = .next (m.next s) :=
  h ▸ exec_eq_next i s

theorem onlyPc_next_jmp (a : Word) (s : State) : OnlyPc a s ((Meaning.jmp a).next s) := onlyPc_setPc s a

theorem pushesAndGoes_next_call (a : Word) (s : State) : PushesAndGoes (s.pc + 3) a s ((Meaning.call a).next s) :=
  (pushesAndGoes_push16 (s.advance 3) _).setPc a

theorem popsPc_next_ret (s : State) : PopsPc s (Meaning.ret.next s) :=
  ⟨rfl, rfl, rfl, fun _ => rfl, fun _ => rfl, rfl, rfl, rfl, rfl, rfl, rfl, rfl⟩

theorem onlyPc_next_jcc (cc : Cond) (a : Word) (s : State) :
    OnlyPc (if cc.holds s.flags then a else s.pc + 3) s ((Meaning.jcc cc a).next s) := by
  rw [Meaning.next_jcc]
  split
  next => exact onlyPc_next_jmp a s
  next => exact onlyPc_advance 3

theorem pushesAndGoes_or_onlyPc_next_ccc (cc : Cond) (a : Word) (s : State) :
    if cc.holds s.flags then PushesAndGoes (s.pc + 3) a s ((Meaning.ccc cc a).next s)
    else OnlyPc (s.pc + 3) s ((Meaning.ccc cc a).next s) := by
  rw [Meaning.next_ccc]
  split
  next => exact pushesAndGoes_next_call a s
  next => exact onlyPc_advance 3

theorem popsPc_or_onlyPc_next_rcc (cc : Cond) (s : State) :
    if cc.holds s.flags then PopsPc s ((Meaning.rcc cc).next s)
    else OnlyPc (s.pc + 1) s ((Meaning.rcc cc).next s) := by
  rw [Meaning.next_rcc]
  split
  next => exact popsPc_next_ret s
  next => exact onlyPc_advance 1

theorem vectorAddr_eq_ofNat (n : BitVec 3) : vectorAddr n = BitVec.ofNat 16 (8 * n.toNat) := by
  rw [← vectorAddr_toNat, BitVec.ofNat_toNat, BitVec.setWidth_eq]

/-- RST n pushes the address after its byte and goes to its vector (R276). -/
theorem pushesAndGoes_next_rst (n : BitVec 3) (s : State) :
    PushesAndGoes (s.pc + 1) (BitVec.ofNat 16 (8 * n.toNat)) s ((Meaning.rst n).next s) := by
  rw [← vectorAddr_eq_ofNat]
  exact (pushesAndGoes_push16 (s.advance 1) _).setPc (vectorAddr n)

end Sys2Proof.Claims
end

section
/-! The control-flow family (47_control_flow): jumps, calls, returns and restarts. -/

namespace Sys2Proof.Claims

open Sys2Proof.Machine

/-- Settles O26: every row is a Jcc, which is JMP when its condition holds and passes over itself otherwise. -/
theorem jumps : Obligations.Jumps := by
  refine ⟨fun a => ⟨rfl, fun s => ⟨_, rfl, onlyPc_next_jmp a s⟩⟩, fun a s i ccc b hrow => ?_⟩
  obtain ⟨cc, hm, rfl, rfl⟩ := exists_cond_of_mem_jccRows hrow
  exact ⟨encode_of_meaning_jcc hm, _, exec_of_meaning hm s, onlyPc_next_jcc cc a s⟩

/-- Settles O27: every row is a Ccc, which is CALL when its condition holds and passes over itself otherwise. -/
theorem calls : Obligations.Calls := by
  refine ⟨fun a => ⟨rfl, exec_call_pushes a⟩, fun a s i ccc b hrow => ?_⟩
  obtain ⟨cc, hm, rfl, rfl⟩ := exists_cond_of_mem_cccRows hrow
  exact ⟨encode_of_meaning_ccc hm, _, exec_of_meaning hm s, pushesAndGoes_or_onlyPc_next_ccc cc a s⟩

/-- Settles O28: every row is an Rcc, which is RET when its condition holds and passes over itself otherwise. -/
theorem returns : Obligations.Returns := by
  refine ⟨rfl, fun s => ⟨_, rfl, popsPc_next_ret s⟩, fun s i ccc b hrow => ?_⟩
  obtain ⟨cc, hm, rfl, rfl⟩ := exists_cond_of_mem_rccRows hrow
  exact ⟨encode_of_meaning_rcc hm, _, exec_of_meaning hm s, popsPc_or_onlyPc_next_rcc cc s⟩

/-- Settles O29: every row is an RST, which pushes and goes to its vector, eight times its index. -/
theorem restarts : Obligations.Restarts := by
  intro i n hrow
  have hm := meaning_of_mem_rstRows _ hrow
  exact ⟨encode_of_meaning_rst hm, fun s => ⟨_, exec_of_meaning hm s, pushesAndGoes_next_rst n s⟩⟩

end Sys2Proof.Claims
end

section
/-! SUPPORT. The interrupt controller (60_exceptions R340 to R346) and the host's other calls (R355): when a request is
accepted, what its delivery changes, and what every action of a schedule keeps. -/

namespace Sys2Proof.Machine

variable {s t : State} {n : Nat}

/-! ### Requests (R340, R341, R344) -/

/-- The acceptance the controller tests is that of R341. -/
theorem State.accepts_iff : s.accepts = true ↔ Claims.Accepts s := by
  have hhalt : s.cfg.haltPolicy ≠ .terminal ↔ s.cfg.haltPolicy = .wakeOnInterrupt := by
    cases s.cfg.haltPolicy <;> simp
  have hpolicy : s.cfg.unimplPolicy ≠ .fatal ↔ s.cfg.unimplPolicy = .nop := by
    cases s.cfg.unimplPolicy <;> simp
  simp [State.accepts, State.final, State.faulted, Claims.Accepts, hhalt, hpolicy, and_assoc]

theorem requestInterrupt_of_gt (hn : 7 < n) : requestInterrupt n s = .refused (.badVectorIndex n) :=
  if_pos hn

theorem requestInterrupt_of_accepts (hn : n ≤ 7) (h : Claims.Accepts s) :
    requestInterrupt n s = .next (s.deliver (BitVec.ofNat 3 n)) := by
  rw [requestInterrupt, if_neg (Nat.not_lt.mpr hn), if_pos (State.accepts_iff.mpr h)]

theorem requestInterrupt_of_not_accepts (hn : n ≤ 7) (h : ¬ Claims.Accepts s) : requestInterrupt n s = .next s := by
  rw [requestInterrupt, if_neg (Nat.not_lt.mpr hn), if_neg (h ∘ State.accepts_iff.mp)]

/-- A request that answers a next state was dropped or delivered. -/
theorem requestInterrupt_cases (h : requestInterrupt n s = .next t) :
    t = s ∨ t = s.deliver (BitVec.ofNat 3 n) := by
  have hn : n ≤ 7 := by
    by_contra hn
    rw [requestInterrupt_of_gt (Nat.lt_of_not_le hn)] at h
    cases h
  by_cases hacc : Claims.Accepts s
  · exact .inr (Host.Outcome.next.inj ((requestInterrupt_of_accepts hn hacc).symm.trans h)).symm
  · exact .inl (Host.Outcome.next.inj ((requestInterrupt_of_not_accepts hn hacc).symm.trans h)).symm

/-! ### Delivery (R342, R343) -/

/-- The vector of a request's index is eight times it (R60). -/
theorem vectorAddr_ofNat (hn : n ≤ 7) : vectorAddr (BitVec.ofNat 3 n) = BitVec.ofNat 16 (8 * n) := by
  rw [Claims.vectorAddr_eq_ofNat, BitVec.toNat_ofNat, Nat.mod_eq_of_lt (Nat.lt_succ_of_le hn)]

/-- Delivery stores the pc at the new sp. -/
theorem storesWord_deliver (s : State) (k : BitVec 3) : StoresWord (s.sp - 2) s.pc s (s.deliver k) :=
  storesWord_push16 s s.pc

/-- A state whose request is accepted is not halted after delivery: it was not, or the halt is woken (R333). -/
theorem halted_deliver (h : Claims.Accepts s) (k : BitVec 3) : (s.deliver k).halted = false := by
  obtain ⟨-, hhalt | hwake, -⟩ := h
  · simp [State.deliver, hhalt]
  · simp [State.deliver, hwake]

/-- Where there is no halt to wake and IE is kept, delivery is the entry RST makes (R276, R342). -/
theorem deliver_eq_enterVector (hh : s.halted = false) (hack : s.cfg.ackClearsIE = false) (k : BitVec 3) :
    s.deliver k = s.enterVector k := by
  simp only [State.deliver, hh, hack, Bool.false_and, Bool.not_false, Bool.and_true]
  rw [← hh]
  rfl

/-! ### A word stored -/

/-- The word read back where it was stored, high byte first: with sp there, a pop would take it. -/
theorem StoresWord.word_eq {a v : Word} (h : StoresWord a v s t) : t.readMem (a + 1) ++ t.readMem a = v :=
  StoresWord.popped (t := t.setSp a) h

theorem StoresWord.readMem_of_ne {a v x : Word} (h : StoresWord a v s t) (hlow : x ≠ a) (hhigh : x ≠ a + 1) :
    t.readMem x = s.readMem x := by
  rw [h, if_neg hlow, if_neg hhigh]

/-! ### The host's writes of memory (R355) -/

/-- A host write of memory changes memory at most. -/
theorem State.writeBytes_eq (s : State) (a : Word) (bytes : List Byte) :
    s.writeBytes a bytes = { s with mem := (s.writeBytes a bytes).mem } := by
  induction bytes generalizing s a with
  | nil => rfl
  | cons v rest ih => exact ih (s.writeMem a v) (a + 1)

/-- An address other than the first of a blob has the place before its own in the rest of the blob. -/
theorem Word.toNat_sub_eq_succ {a x : Word} (h : x ≠ a) : (x - a).toNat = (x - (a + 1)).toNat + 1 := by
  bv_omega

/-- A blob of at most 65536 bytes does not lie on itself: each address reads its own byte of it, or what it read. -/
theorem State.readMem_writeBytes {bytes : List Byte} (s : State) (a x : Word) (hlen : bytes.length ≤ 65536) :
    (s.writeBytes a bytes).readMem x = (bytes[(x - a).toNat]?).getD (s.readMem x) := by
  induction bytes generalizing s a with
  | nil => rfl
  | cons v rest ih =>
    rw [List.length_cons] at hlen
    rw [State.writeBytes, ih (s.writeMem a v) (a + 1) (by omega), State.readMem_writeMem]
    by_cases hx : x = a
    · subst hx
      have hlast : (x - (x + 1)).toNat = 65535 := by bv_omega
      have hpast : rest[(x - (x + 1)).toNat]? = none := List.getElem?_eq_none (by omega)
      rw [hpast, BitVec.sub_self, if_pos rfl]
      rfl
    · rw [if_neg hx, Word.toNat_sub_eq_succ hx, List.getElem?_cons_succ]

/-! ### What every schedule keeps (R332, R36) -/

theorem Steady.refl (s : State) : Steady s (.next s) := .intro id rfl rfl

theorem Steady.trans {r : Result} (h : Steady s (.next t)) (h' : Steady t r) : Steady s r := by
  obtain ⟨_, ⟨⟩, hform, hcfg, hfault⟩ := h
  obtain ⟨u, hu, hform', hcfg', hfault'⟩ := h'
  exact ⟨u, hu, hform' ∘ hform, hcfg'.trans hcfg, fun f hf => hfault' f (hfault f hf)⟩

theorem writeBytes_steady (a : Word) (bytes : List Byte) : Steady s (.next (s.writeBytes a bytes)) :=
  .intro (State.wf_writeBytes a bytes) (by rw [State.writeBytes_eq]) (by rw [State.writeBytes_eq])

theorem requestInterrupt_steady (h : requestInterrupt n s = .next t) : Steady s (.next t) := by
  obtain rfl | rfl := requestInterrupt_cases h
  · exact .refl t
  · exact .intro (State.wf_enterVector (BitVec.ofNat 3 n)) rfl rfl

theorem hostCall_steady {c : HostCall} (h : hostCall c s = .next t) : Steady s (.next t) := by
  cases c with
  | requestInterrupt n => exact requestInterrupt_steady h
  | setIn1 v | setIn2 v => cases h; exact .intro id rfl rfl
  | writeMem a bytes | loadRom a bytes => cases h; exact writeBytes_steady a bytes

theorem hostAction_steady {x : HostAction} (h : hostAction x s = .next t) : Steady s (.next t) := by
  cases x with
  | step => exact h ▸ step_steady
  | call c => exact hostCall_steady h

/-- A schedule that answers a next state ran its first action to a next state, and the rest from there. -/
theorem runSchedule_cons_iff {x : HostAction} {rest : List HostAction} :
    runSchedule (x :: rest) s = .next t ↔ ∃ u, hostAction x s = .next u ∧ runSchedule rest u = .next t := by
  rw [runSchedule]
  cases hostAction x s <;> simp

/-- A schedule that begins with a request runs on from the state the request answers (R346). -/
theorem runSchedule_request_cons (h : requestInterrupt n s = .next t) (rest : List HostAction) :
    runSchedule (.call (.requestInterrupt n) :: rest) s = runSchedule rest t := by
  rw [runSchedule, hostAction, hostCall, h]

theorem runSchedule_steady {xs : List HostAction} (h : runSchedule xs s = .next t) : Steady s (.next t) := by
  induction xs generalizing s with
  | nil => cases h; exact .refl _
  | cons x rest ih =>
    obtain ⟨u, hx, hrest⟩ := runSchedule_cons_iff.mp h
    exact (hostAction_steady hx).trans (ih hrest)

end Sys2Proof.Machine

namespace Sys2Proof.Claims

open Sys2Proof.Machine

/-! ### The twelve bytes (R330) -/

/-- The rows of R88 raise Unimplemented with their own byte. -/
theorem meaning_of_mem_unimplementedRows : ∀ row ∈ unimplementedRows, meaning row.1 = .unimplemented row.2 :=
  List.map_inj_left.mp rfl

theorem raiseUnimplemented_eq (s : State) (b : Byte) :
    s.raiseUnimplemented b = { s with
      pc := s.pc + 1
      fault := if s.fault = none then some { addr := s.pc, opcode := b } else s.fault } := by
  cases hf : s.fault <;> simp [State.raiseUnimplemented, State.advance, hf]

end Sys2Proof.Claims
end

section
/-! The exceptions family (60_exceptions): schedules of host actions, the twelve bytes, interrupts, host writes. -/

namespace Sys2Proof.Claims

open Sys2Proof.Machine

/-- Settles O47: every action keeps the three (`hostAction_steady`), so every list of them does. -/
theorem faultRecordNeverCleared : Obligations.FaultRecordNeverCleared := by
  intro xs s t h
  obtain ⟨_, ⟨⟩, hform, hcfg, hfault⟩ := runSchedule_steady h
  exact ⟨hfault, hcfg, hform⟩

/-- Settles O55: an accepted request is delivered, which pushes the pc, enters the vector and ends a halt. -/
theorem acceptedInterrupt : Obligations.AcceptedInterrupt := by
  refine ⟨fun n s hn hacc => ?_, fun n s => requestInterrupt_of_gt⟩
  have hie : (s.deliver (BitVec.ofNat 3 n)).ie = !s.cfg.ackClearsIE := by
    obtain ⟨hie, -⟩ := hacc
    simp [State.deliver, hie]
  exact ⟨_, requestInterrupt_of_accepts hn hacc, vectorAddr_ofNat hn, s.push16_sp s.pc, storesWord_deliver s _,
    halted_deliver hacc _, hie, rfl, fun _ => rfl, rfl, rfl, rfl, rfl, rfl⟩

/-- Settles O56: each of the three makes R341's condition false, and a request that is not accepted is dropped. -/
theorem droppedInterrupt : Obligations.DroppedInterrupt := by
  intro n s hn h
  refine requestInterrupt_of_not_accepts hn ?_
  rintro ⟨hie, hhalt, hfault⟩
  obtain hclear | ⟨hh, hterminal⟩ | ⟨hf, hfatal⟩ := h
  · simp [hclear] at hie
  · simp [hh, hterminal] at hhalt
  · simp [hf, hfatal] at hfault

/-- Settles O57: both make the same entry, and RST's own byte moves the pc back to the boundary. -/
theorem interruptActsAsRst : Obligations.InterruptActsAsRst := by
  intro i n s hrow hacc hh hack
  have hback : ({ s with pc := s.pc - 1 } : State).advance 1 = s := by
    have hpc : s.pc - 1 + BitVec.ofNat 16 1 = s.pc := BitVec.sub_add_cancel _ _
    rw [State.advance, hpc]
  calc requestInterrupt n.toNat s
      = .next (s.deliver (BitVec.ofNat 3 n.toNat)) := requestInterrupt_of_accepts (Nat.le_of_lt_succ n.isLt) hacc
    _ = .next (s.enterVector n) := by rw [deliver_eq_enterVector hh hack, BitVec.ofNat_toNat, BitVec.setWidth_eq]
    _ = doRst n { s with pc := s.pc - 1 } := by rw [doRst, hback]
    _ = exec i { s with pc := s.pc - 1 } := by rw [exec_eq_run, meaning_of_mem_rstRows _ hrow]; rfl

/-- Settles O58: after the first delivery IE alone decides on the second; delivered, it pushes the first's vector two
below the old pc. -/
theorem twoRequestsAtOneBoundary : Obligations.TwoRequestsAtOneBoundary := by
  intro n m s hn hm hacc
  obtain ⟨t, hfirst, hpc, hsp, hword, hh, hie, -, -, hf, -, hcfg, -⟩ := acceptedInterrupt.1 n s hn hacc
  refine ⟨fun hack => ?kept, fun hack => ?cleared⟩
  case kept =>
    have hacc' : Accepts t := by
      obtain ⟨-, -, hfault⟩ := hacc
      exact ⟨by simp [hie, hack], .inl hh, by rwa [hf, hcfg]⟩
    obtain ⟨u, hsecond, hupc, husp, huword, -⟩ := acceptedInterrupt.1 m t hm hacc'
    have hsp4 : t.sp - 2 = s.sp - 4 := by bv_omega
    have hsp3 : s.sp - 4 + 1 = s.sp - 3 := by bv_omega
    have hsp1 : s.sp - 2 + 1 = s.sp - 1 := Word.sub_two_add_one s.sp
    rw [hsp4] at husp huword
    have hkept : ∀ x, x ≠ s.sp - 4 → x ≠ s.sp - 3 → u.readMem x = t.readMem x := fun x h4 h3 =>
      huword.readMem_of_ne h4 (hsp3 ▸ h3)
    refine ⟨u, ?_, hupc, husp, ?_, ?_⟩
    · exact (runSchedule_request_cons hfirst _).trans (runSchedule_request_cons hsecond [])
    · rw [← hsp3, huword.word_eq, hpc]
    · rw [hkept _ (by bv_omega) (by bv_omega), hkept _ (by bv_omega) (by bv_omega), ← hsp1, hword.word_eq]
  case cleared =>
    have hsecond : requestInterrupt m t = .next t := droppedInterrupt m t hm (.inl (by simp [hie, hack]))
    calc runSchedule [.call (.requestInterrupt n), .call (.requestInterrupt m)] s
        = runSchedule [.call (.requestInterrupt m)] t := runSchedule_request_cons hfirst _
      _ = runSchedule [] t := runSchedule_request_cons hsecond _
      _ = runSchedule [.call (.requestInterrupt n)] s := (runSchedule_request_cons hfirst _).symm

/-- Settles O59: a port write is a write of its register; of a blob each address reads its byte. -/
theorem hostWrites : Obligations.HostWrites := fun s =>
  ⟨fun _ => rfl, fun _ => rfl, fun a bytes hlen =>
    ⟨_, rfl, rfl, fun x => s.readMem_writeBytes a x hlen, s.writeBytes_eq a bytes⟩⟩

/-- Settles O35: every row raises Unimplemented, and its byte at pc decodes to an instruction that raises the same. -/
theorem unimplementedOpcodes : Obligations.UnimplementedOpcodes := by
  intro i b hrow
  have hm := meaning_of_mem_unimplementedRows _ hrow
  have hop : b ∈ Machine.unimplementedOpcodes := (mem_unimplementedOpcodes_iff b).mpr ⟨i, hrow⟩
  refine ⟨encode_of_mem_unimplementedRows _ hrow, fun s => ⟨?exec, fun hr hbyte => ⟨?step, ?outcome⟩⟩⟩
  case exec =>
    rw [← raiseUnimplemented_eq, exec_of_meaning hm]
    rfl
  case step =>
    subst hbyte
    rw [step_of_runs hr, exec_eq_run, exec_eq_run, fetchInstr, meaning_decode3_of_mem hop, hm]
  case outcome =>
    subst hbyte
    rw [stepOutcome_of_runs hr, if_pos hop]

end Sys2Proof.Claims
end

section
/-! SUPPORT. Exchanges and ports (48_exchange, 49_io_interrupt_enable): the next states of XCHG and XTHL, and what IN
reads and OUT writes in the terms of R300 to R306. -/

namespace Sys2Proof.Machine

variable (s : State)

/-! ### Exchanges (R290, R291) -/

theorem exec_xchg : exec .xchg s = .next (((s.advance 1).setPair .hl (s.pair .de)).setPair .de (s.pair .hl)) := rfl

theorem exec_xthl : exec .xthl s = .next (((s.advance 1).writeMem16 s.sp (s.pair .hl)).setPair .hl s.popped) := rfl

/-! ### IN (R300, R302, R305) -/

@[simp] theorem State.afterIn_pc (p : Byte) : (s.afterIn p).pc = s.pc := by rw [afterIn_eq]
@[simp] theorem State.afterIn_ports (p : Byte) : (s.afterIn p).ports = s.ports := by rw [afterIn_eq]
@[simp] theorem State.afterIn_cfg (p : Byte) : (s.afterIn p).cfg = s.cfg := by rw [afterIn_eq]
@[simp] theorem State.afterIn_outLog (p : Byte) : (s.afterIn p).outLog = s.outLog := by rw [afterIn_eq]
@[simp] theorem State.reg_afterIn (p : Byte) (q : Reg) : (s.afterIn p).reg q = s.reg q := by rw [afterIn_eq]; rfl

@[simp] theorem State.readMem_afterIn (p : Byte) (x : Word) : (s.afterIn p).readMem x = s.readMem x := by
  rw [afterIn_eq]; rfl

/-- The host answers a read of any port but the three mapped ones. -/
theorem State.afterIn_draws (p : Byte) :
    (s.afterIn p).draws = if 1 ≤ p.toNat ∧ p.toNat ≤ 3 then s.draws else s.draws + 1 := by
  have hmapped : mappedIn p = true ↔ 1 ≤ p.toNat ∧ p.toNat ≤ 3 := by
    rw [mappedIn, decide_eq_true_iff]
    bv_omega
  simp only [afterIn, hmapped]
  split <;> rfl

/-- The shift result as a number: the sixteen bits of the data latch, shifted right by 8 less the amount (R302). -/
theorem Ports.shiftResult_eq (q : Ports) :
    q.shiftResult = BitVec.ofNat 8 ((q.shift1.toNat * 256 + q.shift0.toNat) / 2 ^ (8 - q.shiftAmount.toNat)) := by
  rw [shiftResult, ← toNat_append_bytes, ← Nat.shiftRight_eq_div_pow, ← BitVec.toNat_ushiftRight, BitVec.ofNat_toNat]

/-- What IN reads, by the number of the port. -/
theorem State.machineIn_eq (p : Byte) :
    s.machineIn p =
      if p.toNat = 1 then s.ports.in1 else if p.toNat = 2 then s.ports.in2
      else if p.toNat = 3 then
        BitVec.ofNat 8 ((s.ports.shift1.toNat * 256 + s.ports.shift0.toNat) / 2 ^ (8 - s.ports.shiftAmount.toNat))
      else Config.unmappedIn p s.draws := by
  rw [machineIn, Ports.shiftResult_eq]
  simp only [BitVec.toNat_eq (x := p)]
  rfl

/-! ### OUT (R303, R304, R306) -/

@[simp] theorem State.machineOut_pc (p v : Byte) : (s.machineOut p v).pc = s.pc := by rw [machineOut_eq]
@[simp] theorem State.machineOut_cfg (p v : Byte) : (s.machineOut p v).cfg = s.cfg := by rw [machineOut_eq]
@[simp] theorem State.machineOut_draws (p v : Byte) : (s.machineOut p v).draws = s.draws := by rw [machineOut_eq]
@[simp] theorem State.reg_machineOut (p v : Byte) (q : Reg) : (s.machineOut p v).reg q = s.reg q := by
  rw [machineOut_eq]; rfl

@[simp] theorem State.readMem_machineOut (p v : Byte) (x : Word) : (s.machineOut p v).readMem x = s.readMem x := by
  rw [machineOut_eq]; rfl

/-- OUT 2 sets the shift amount, OUT 4 moves the data latch on, and OUT to any other port is shown to the host. -/
theorem State.machineOut_cases (p v : Byte) :
    p = 2 ∧ s.machineOut p v = { s with ports := { s.ports with shiftAmount := v.extractLsb' 0 3 } } ∨
    p = 4 ∧ s.machineOut p v = { s with ports := { s.ports with shift0 := s.ports.shift1, shift1 := v } } ∨
    (p.toNat ≠ 2 ∧ p.toNat ≠ 4) ∧
      s.machineOut p v = { s with outLog := s.outLog ++ [{ port := p, value := v }] } := by
  unfold machineOut
  split_ifs with h2 h4
  · exact .inl ⟨h2, rfl⟩
  · exact .inr (.inl ⟨h4, rfl⟩)
  · exact .inr (.inr ⟨⟨by bv_omega, by bv_omega⟩, rfl⟩)

/-- The shift amount after OUT: the value modulo 8 after OUT 2, kept after any other (R303). -/
theorem State.machineOut_shiftAmount (p v : Byte) :
    (s.machineOut p v).ports.shiftAmount.toNat = if p.toNat = 2 then v.toNat % 8 else s.ports.shiftAmount.toNat := by
  obtain ⟨rfl, h⟩ | ⟨rfl, h⟩ | ⟨⟨h2, h4⟩, h⟩ := s.machineOut_cases p v
  · rw [h]
    exact BitVec.extractLsb'_toNat ..
  · rw [h]; rfl
  · rw [h, if_neg h2]

theorem State.machineOut_shift0 (p v : Byte) :
    (s.machineOut p v).ports.shift0 = if p.toNat = 4 then s.ports.shift1 else s.ports.shift0 := by
  obtain ⟨rfl, h⟩ | ⟨rfl, h⟩ | ⟨⟨h2, h4⟩, h⟩ := s.machineOut_cases p v
  · rw [h]; rfl
  · rw [h]; rfl
  · rw [h, if_neg h4]

theorem State.machineOut_shift1 (p v : Byte) :
    (s.machineOut p v).ports.shift1 = if p.toNat = 4 then v else s.ports.shift1 := by
  obtain ⟨rfl, h⟩ | ⟨rfl, h⟩ | ⟨⟨h2, h4⟩, h⟩ := s.machineOut_cases p v
  · rw [h]; rfl
  · rw [h]; rfl
  · rw [h, if_neg h4]

theorem State.machineOut_outLog (p v : Byte) :
    (s.machineOut p v).outLog =
      if p.toNat = 2 ∨ p.toNat = 4 then s.outLog else s.outLog ++ [{ port := p, value := v }] := by
  obtain ⟨rfl, h⟩ | ⟨rfl, h⟩ | ⟨⟨h2, h4⟩, h⟩ := s.machineOut_cases p v
  · rw [h]; rfl
  · rw [h]; rfl
  · rw [h, if_neg (not_or.mpr ⟨h2, h4⟩)]

/-- OUT keeps the input ports; only OUT 2 writes the shift amount, and only OUT 4 the data latch (R301, R303). -/
theorem portWrites_machineOut (p v : Byte) :
    (s.machineOut p v).ports.in1 = s.ports.in1 ∧ (s.machineOut p v).ports.in2 = s.ports.in2 ∧
    ((s.machineOut p v).ports.shiftAmount ≠ s.ports.shiftAmount → p = 2) ∧
    ((s.machineOut p v).ports.shift0 ≠ s.ports.shift0 ∨ (s.machineOut p v).ports.shift1 ≠ s.ports.shift1 → p = 4) := by
  obtain ⟨rfl, h⟩ | ⟨rfl, h⟩ | ⟨-, h⟩ := s.machineOut_cases p v
  · rw [h]; simp
  · rw [h]; simp
  · rw [h]; simp

/-- No meaning but OUT writes a port register (R301, R32): any other commutes with a change of them (`next_withPorts`),
but for IN 3, which reads them. -/
theorem Meaning.next_ports {m : Meaning} (hout : ∀ p, m ≠ .out p) : (m.next s).ports = s.ports := by
  by_cases hin : m = .inp 3
  · subst hin
    exact State.afterIn_ports (s.advance 2) 3
  · have hself : m.next s = (m.next s).withPorts s.ports := next_withPorts (q := s.ports) rfl rfl hin hout
    rw [hself]
    rfl

/-- An instruction whose meaning is OUT to `p` is OUT to `p`. -/
theorem eq_outPort_of_meaning {i : Instr} {p : Byte} (h : meaning i = .out p) : i = .outPort p := by
  cases i <;> cases h
  rfl

end Sys2Proof.Machine
end

section
/-! The exchange family (48_exchange) and the ports and interrupt enable family (49_io_interrupt_enable). -/

namespace Sys2Proof.Claims

open Sys2Proof.Machine

/-- Settles O30: XCHG sets each pair to what the other held; XTHL stores HL at sp and sets it to what sp held. -/
theorem exchanges : Obligations.Exchanges := by
  refine ⟨rfl, rfl, fun s => ⟨?xchg, ?xthl⟩⟩
  case xchg =>
    exact ⟨_, exec_xchg s, high_of_append _ _, low_of_append _ _, high_of_append _ _, low_of_append _ _, rfl, rfl, rfl,
      rfl, rfl, fallsThrough_advance 1, fun _ => rfl⟩
  case xthl =>
    exact ⟨_, exec_xthl s, setsPair_setPair .hl s.popped ((s.advance 1).writeMem16 s.sp (s.pair .hl)),
      storesWord_writeMem16 (s.advance 1) s.sp (s.pair .hl), rfl, fallsThrough_advance 1⟩

/-- Settles O31: IN sets A to what the multiplexer reads, and counts the host's answers at most. -/
theorem inFromPorts : Obligations.InFromPorts := by
  refine fun p => ⟨rfl, fun s => ⟨_, rfl, fun q => ?read, State.afterIn_draws (s.advance 2) p, ?frame⟩⟩
  case read =>
    rw [State.reg_setReg, State.machineIn_eq, State.reg_afterIn]
    rfl
  case frame => simp [SameMem]

/-- Settles O32: OUT writes as R303, R304 and R306 say of the port's number, and nothing else. -/
theorem outToPorts : Obligations.OutToPorts := by
  refine fun p => ⟨rfl, fun s => ⟨_, rfl, State.machineOut_in1 _ p _, State.machineOut_in2 _ p _,
    State.machineOut_shiftAmount _ p _, State.machineOut_shift0 _ p _, State.machineOut_shift1 _ p _,
    State.machineOut_outLog _ p _, ?frame⟩⟩
  case frame => simp [SameRegs, SameMem]

/-- Settles O33: after EI the next boundary's request meets R341's condition; after DI it does not. -/
theorem enableAndDisable : Obligations.EnableAndDisable := by
  refine ⟨rfl, rfl, fun s => ⟨rfl, rfl, fun n hn => ⟨?ei, ?di⟩⟩⟩
  case ei =>
    rintro _ ⟨hh, hf⟩ ⟨⟩
    obtain ⟨u, hu, hpc, -, hword, -⟩ :=
      acceptedInterrupt.1 n { s.advance 1 with ie := true } hn ⟨rfl, .inl hh, hf⟩
    have hword : StoresWord (s.sp - 2) (s.pc + 1) s u := hword
    have hnext : s.sp - 2 + 1 = s.sp - 1 := Word.sub_two_add_one s.sp
    exact ⟨u, hu, hpc, hnext ▸ hword.word_eq⟩
  case di =>
    rintro _ ⟨⟩
    exact droppedInterrupt n _ hn (.inl rfl)

/-- Settles O51: no meaning but OUT writes a port register, and OUT the latches of its port; a request is dropped or
delivered, and delivery enters the vector only. -/
theorem portRegisterWriters : Obligations.PortRegisterWriters := by
  refine ⟨fun i s t ht => ?_, fun n s t ht => ?_⟩
  · obtain rfl := eq_next_of_exec ht
    by_cases hout : ∃ p, meaning i = .out p
    · obtain ⟨p, hm⟩ := hout
      obtain rfl := eq_outPort_of_meaning hm
      obtain ⟨hin1, hin2, hamount, hdata⟩ := portWrites_machineOut (s.advance 2) p (s.reg .a)
      exact ⟨hin1, hin2, fun h => congrArg _ (hamount h), fun h => congrArg _ (hdata h)⟩
    · have hports := Meaning.next_ports s (not_exists.mp hout)
      simp [hports]
  · obtain rfl | rfl := requestInterrupt_cases ht <;> rfl

end Sys2Proof.Claims
end
